-- ==== Sys2Proof/Word.lean ====
section
/-! DEFINITION. The words of the panel protocol driver: bytes, nibbles, the three instruction words
(spec/30_encoding.md R70) and the level of a line (spec/00_scope.md section 6). -/

namespace Sys2Proof

/-- A byte, 8 bits (00 section 6). -/
abbrev Byte := BitVec 8

/-- A nibble, 4 bits (00 section 6): one pixel code. -/
abbrev Nibble := BitVec 4

/-- The request code `req_op` on the host port (30 R73). -/
abbrev HostWord := BitVec 2

/-- A micro-operation word: kind in bits 11 to 8, imm in bits 7 to 0 (30 R74). -/
abbrev UopWord := BitVec 12

/-- A wire frame as 9 bits: mbit, then the byte (30 R71). -/
abbrev WireWord := BitVec 9

/-- The level of a line: `L` or `H` (00 section 6). A line that nothing has written holds `none`,
so a line's register is an `Option Level`. -/
inductive Level where
  | low
  | high
deriving DecidableEq, Repr, Inhabited

end Sys2Proof
end

