-- ==== Sys2Proof/Config.lean ====
section
/-! DEFINITION. The configuration (spec/00_scope.md R6, R7; spec/92_eei_decisions.md P1 to P17), the
constants the spec leaves open, and the free values the environment chooses. Nothing here has a value
that the spec does not give: an open parameter and a free value are opaque constants without a body. -/

namespace Sys2Proof

/-- The pixel encoding of the frame buffer (43 R160; parameter P14). -/
inductive Encoding where
  | native4
  | lut3
deriving DecidableEq, Repr, Inhabited

/-- The serial mode: clock polarity and phase (parameter P8). No rule reads it. -/
structure SpiMode where
  cpol : Bool
  cpha : Bool
deriving DecidableEq, Repr, Inhabited

/-- The pin numbers of the six signals (10 R20; parameter P10). No rule reads them. -/
structure PinMap where
  sck  : Nat
  mosi : Nat
  cs   : Nat
  rdy  : Nat
  rst  : Nat
  dc   : Nat
deriving DecidableEq, Repr, Inhabited

/-- The parameters of 00 R6 and R7. A configuration is fixed for a machine (20 R66): no step writes it. -/
structure Config where
  /-- `WIDTH`, pixels per scanline. -/
  width : Nat
  /-- `HEIGHT`, scanlines. -/
  height : Nat
  /-- `T_RST_HI1`, the first high hold of the reset pulse, ms. -/
  tRstHi1 : Nat
  /-- `T_RST_LO`, the low hold, ms. -/
  tRstLo : Nat
  /-- `T_RST_HI2`, the second high hold, ms. -/
  tRstHi2 : Nat
  /-- P1 `INIT_TABLE`: command byte and data bytes of each entry (30 R78). -/
  initTable : List (Byte × List Byte)
  /-- P2. -/
  cmdFrameStart : Byte
  /-- P3. -/
  cmdPowerOn : Byte
  /-- P4. -/
  cmdRefresh : Byte
  /-- P4. -/
  argRefresh : Byte
  /-- P5. -/
  cmdPowerOff : Byte
  /-- P5. -/
  argPowerOff : Byte
  /-- P6. -/
  cmdDeepSleep : Byte
  /-- P6. -/
  sleepPayload : List Byte
  /-- P7 `SPI_HZ`; read by no rule. -/
  spiHz : Nat
  /-- P8 `SPI_MODE`; read by no rule. -/
  spiMode : SpiMode
  /-- P9 `DC_LEVEL_CMD`, the electrical level that means command; read by no rule. -/
  dcLevelCmd : Level
  /-- P10 `PINMAP`; read by no rule. -/
  pinMap : PinMap
  /-- P11 `CHUNK_ROWS`. -/
  chunkRows : Nat
  /-- P12 `T_POLL`, nominal ms; read by no rule. -/
  tPoll : Nat
  /-- P12 `T_YIELD`, nominal ms; read by no rule. -/
  tYield : Nat
  /-- P13 `BUSY_TIMEOUT`, a count of polls (41 R128). -/
  busyTimeout : Option Nat
  /-- P14 `ENCODING`. -/
  encoding : Encoding
  /-- P15 `CLK_HZ`; read by no rule. -/
  clkHz : Nat
  /-- P16 `NIB_CLEAN`, the native nibble of the reserved colour. -/
  nibClean : Nibble
deriving DecidableEq, Repr, Inhabited

/-! ### Open parameters: the spec gives no value (log 2) -/

/-- P1: the init table of the hardware (91 N2). -/
opaque Config.openInitTable : List (Byte × List Byte)
/-- P2 (91 N3). -/
opaque Config.openCmdFrameStart : Byte
/-- P3 (91 N3). -/
opaque Config.openCmdPowerOn : Byte
/-- P4 (91 N3). -/
opaque Config.openCmdRefresh : Byte
/-- P4 (91 N3). -/
opaque Config.openArgRefresh : Byte
/-- P5 (91 N3). -/
opaque Config.openCmdPowerOff : Byte
/-- P5 (91 N3). -/
opaque Config.openArgPowerOff : Byte
/-- P6 (91 N3). -/
opaque Config.openCmdDeepSleep : Byte
/-- P7 (91 N4). -/
opaque Config.openSpiHz : Nat
/-- P8 (91 N4). -/
opaque Config.openSpiMode : SpiMode
/-- P9 (91 N4). -/
opaque Config.openDcLevelCmd : Level
/-- P10 (91 N4). -/
opaque Config.openPinMap : PinMap
/-- P15 (91 N9). -/
opaque Config.openClkHz : Nat
/-- P16 (91 N11). -/
opaque Config.openNibClean : Nibble

/-- The hardware's configuration: the values of 00 R6, the defaults of 00 R7 (P6 payload, P11, P12, P13,
P14), and the open constants above. -/
def Config.hardware : Config where
  width := 800
  height := 480
  tRstHi1 := 20
  tRstLo := 1
  tRstHi2 := 20
  initTable := Config.openInitTable
  cmdFrameStart := Config.openCmdFrameStart
  cmdPowerOn := Config.openCmdPowerOn
  cmdRefresh := Config.openCmdRefresh
  argRefresh := Config.openArgRefresh
  cmdPowerOff := Config.openCmdPowerOff
  argPowerOff := Config.openArgPowerOff
  cmdDeepSleep := Config.openCmdDeepSleep
  sleepPayload := []
  spiHz := Config.openSpiHz
  spiMode := Config.openSpiMode
  dcLevelCmd := Config.openDcLevelCmd
  pinMap := Config.openPinMap
  chunkRows := 10
  tPoll := 1
  tYield := 1
  busyTimeout := none
  encoding := .native4
  clkHz := Config.openClkHz
  nibClean := Config.openNibClean

/-! ### Free values: what the environment answers at a draw (log 4, log 7)

Each is a function of the draw's number, the field `draws` of State. Nothing constrains any of them. -/

/-- The level of the block reset input `rst` (10 R41, 70 R261). -/
opaque Config.freeRst : Nat → Bool
/-- `req_valid` (10 R41). -/
opaque Config.freeReqValid : Nat → Bool
/-- `req_op` (10 R41). -/
opaque Config.freeReqOp : Nat → HostWord
/-- `req_len` (10 R41). -/
opaque Config.freeReqLen : Nat → BitVec 18
/-- The bytes behind the frame-buffer read port (10 R41), as offsets and bytes in any order. -/
opaque Config.freeFb : Nat → List Host.Cell
/-- `cfg_ok`, the outcome of bus configuration (42 R141). -/
opaque Config.freeCfgOk : Nat → Bool
/-- The ready line (10 R25, 41 R125): true is high, ready. -/
opaque Config.freeRdy : Nat → Bool
/-- An interval of time as a pair (n, m): n and m+1 are the numerator and denominator of the excess
over a hold's bound (41 R121), n+1 and m+1 those of a yield's length (41 R124). -/
opaque Config.freeTime : Nat → Nat × Nat

end Sys2Proof
end

