-- ==== Sys2Proof/Syntax.lean ====
section
/-! DEFINITION. The instructions of spec/opcode_table.json, one constructor per row, and the small name
sets their operands and encodings use (spec/30_encoding.md R70 to R81, spec/10_state.md R29). -/

namespace Sys2Proof

/-- The mode of a wire frame, carried by the discriminator line (10 R22, 30 R71). -/
inductive DcMode where
  | cmd
  | data
deriving DecidableEq, Repr, Inhabited

/-- The sequencer states of 10 R29; the reserved codes 9 to 15 are no constructors (93 U10). -/
inductive Phase where
  | idle
  | transmitting
  | poweringOn
  | refreshing
  | poweringOff
  | resetting
  | initWait
  | initReplay
  | sleeping
deriving DecidableEq, Repr, Inhabited

/-- The host operations by `req_op` (30 R73). -/
inductive HostOp where
  | reserved
  | initializeOp
  | displayframe
  | sleep
deriving DecidableEq, Repr, Inhabited

/-- The three instruction-like formats (30 R70). -/
inductive Format where
  | hostop
  | uop
  | wire
deriving DecidableEq, Repr, Inhabited

/-- The instructions of spec/opcode_table.json, in the table's order. -/
inductive Instr where
  /-- HOSTOP_RESERVED, `req_op` 0b00 (60 R226). -/
  | hostopReserved
  /-- INITIALIZE, `req_op` 0b01 (42 R140). -/
  | initializeOp
  /-- DISPLAYFRAME, `req_op` 0b10 (44 R180); its length and buffer come through the port. -/
  | displayframe
  /-- SLEEP, `req_op` 0b11 (44 R191). -/
  | sleep
  /-- END (42 R147). -/
  | endOp
  /-- SETCMD (40 R100). -/
  | setcmd
  /-- SETDAT (40 R101). -/
  | setdat
  /-- XFER v (40 R102). -/
  | xfer (v : Byte)
  /-- CMD c (40 R104). -/
  | cmd (c : Byte)
  /-- DAT d (40 R105). -/
  | dat (d : Byte)
  /-- RSTW l (41 R120). -/
  | rstw (l : Level)
  /-- DELAY t (41 R121). -/
  | delay (t : Byte)
  /-- WAITRDY (41 R126). -/
  | waitrdy
  /-- YIELD (41 R124). -/
  | yield
  /-- HARDRESET (41 R122). -/
  | hardreset
  /-- STREAM (44 R184). -/
  | stream
  /-- PHASE p (42 R148); a code above 8 is ill-formed. -/
  | phase (p : Nibble)
  /-- Reserved kind 0xD (30 R81 (b)). -/
  | uopReservedD (imm : Byte)
  /-- Reserved kind 0xE (30 R81 (b)). -/
  | uopReservedE (imm : Byte)
  /-- Reserved kind 0xF (30 R81 (b)). -/
  | uopReservedF (imm : Byte)
  /-- Any command frame (30 R71). -/
  | wireCmd (v : Byte)
  /-- Any data frame (30 R71). -/
  | wireData (v : Byte)
  /-- The frame-start command of the configuration (44 R183). -/
  | frameStart
  /-- The power-on command (44 R187). -/
  | powerOn
  /-- The refresh command with its data byte (44 R188). -/
  | refresh
  /-- The power-off command with its data byte (44 R189). -/
  | powerOff
  /-- The deep-sleep command with its payload (44 R191). -/
  | deepSleep
  /-- An entry of the init table (30 R78); a pair outside the table is ill-formed. -/
  | initEntry (c : Byte) (ds : List Byte)
  /-- A packed pixel byte of the stream (30 R80): first pixel, second pixel. -/
  | pixelData (p0 p1 : Nibble)
deriving DecidableEq, Repr

/-- The format of each row (30 R70). -/
def Instr.format : Instr → Format
  | .hostopReserved | .initializeOp | .displayframe | .sleep => .hostop
  | .endOp | .setcmd | .setdat | .xfer _ | .cmd _ | .dat _ | .rstw _ | .delay _ | .waitrdy | .yield
  | .hardreset | .stream | .phase _ | .uopReservedD _ | .uopReservedE _ | .uopReservedF _ => .uop
  | .wireCmd _ | .wireData _ | .frameStart | .powerOn | .refresh | .powerOff | .deepSleep
  | .initEntry _ _ | .pixelData _ _ => .wire

end Sys2Proof
end

