-- ==== Sys2Proof/WellFormed.lean ====
section
/-! DEFINITION. Which terms of `Instr` are instructions of a machine with a given configuration
(spec/30_encoding.md R76, R78, R81). -/

namespace Sys2Proof

/-- An instruction of the configuration `c`: a PHASE code is one of 0 to 8 (30 R76), an init entry is an
entry of the init table (30 R78). The other operands are whole bytes, nibbles or levels and admit every
value. -/
def Instr.wellFormed (c : Config) : Instr → Bool
  | .phase p => decide (p.toNat ≤ 8)
  | .initEntry b ds => decide ((b, ds) ∈ c.initTable)
  | .hostopReserved | .initializeOp | .displayframe | .sleep | .endOp | .setcmd | .setdat | .xfer _
  | .cmd _ | .dat _ | .rstw _ | .delay _ | .waitrdy | .yield | .hardreset | .stream
  | .uopReservedD _ | .uopReservedE _ | .uopReservedF _ | .wireCmd _ | .wireData _ | .frameStart
  | .powerOn | .refresh | .powerOff | .deepSleep | .pixelData _ _ => true

/-- A configuration that the spec allows: the holds are not shorter than the panel requires (41 R123),
`WIDTH` is even (00 R6, P17), a chunk has at least one row (00 R8), a bound on the wait is at least one
poll (41 R128). -/
def Config.wellFormed (c : Config) : Bool :=
  decide (20 ≤ c.tRstHi1) && decide (1 ≤ c.tRstLo) && decide (20 ≤ c.tRstHi2) &&
  decide (c.width % 2 = 0) && decide (1 ≤ c.chunkRows) && decide (c.busyTimeout ≠ some 0)

end Sys2Proof
end

