-- ==== Sys2Proof/Decode.lean ====
section
/-! DEFINITION. The decoders and the encoder of the three formats (spec/30_encoding.md R70 to R81, R85;
spec/opcode_table.json). Each decoder is total and rejects by name. -/

namespace Sys2Proof

/-- Why words are no instruction: raised by the decoders, and turned by the sequencer's fetch into
`fault IllegalUop` (30 R81 (b)). All are safe: the machine stops. -/
inductive DecodeError where
  /-- A non-zero `imm` where 30 R75 says "must be 0". -/
  | immNotZero (kind : Nibble)
  /-- RSTW with `imm[7:1]` not 0. -/
  | rstwHighBits
  /-- PHASE with `imm[7:4]` not 0. -/
  | phaseHighBits
  /-- PHASE with a code above 8. -/
  | phaseCode
  /-- Wire frames that are no message of the context they are read in (30 R77, R78, R82). -/
  | notAMessage
deriving DecidableEq, Repr

/-- The words of an instruction, by format (30 R70): a request code, a micro-operation word, or wire
frames in the order they are sent. -/
inductive Words where
  | hostop (w : HostWord)
  | uop (w : UopWord)
  | wire (ws : List WireWord)
deriving DecidableEq, Repr

/-! ### HOSTOP (30 R73) -/

/-- The host operation a request code names; every code names one. -/
def decodeHostOp (w : HostWord) : HostOp :=
  if w = 0 then .reserved
  else if w = 1 then .initializeOp
  else if w = 2 then .displayframe
  else .sleep

/-- The instruction of a host operation. -/
def HostOp.instr : HostOp → Instr
  | .reserved => .hostopReserved
  | .initializeOp => .initializeOp
  | .displayframe => .displayframe
  | .sleep => .sleep

/-- The instruction a request code selects. -/
def decodeHostop (w : HostWord) : Instr := (decodeHostOp w).instr

/-! ### UOP (30 R74 to R76, R81, R85) -/

/-- Field `kind`, bits 11 to 8 (30 R74). -/
def uopKind (w : UopWord) : Nibble := w.extractLsb' 8 4

/-- Field `imm`, bits 7 to 0 (30 R74). -/
def uopImm (w : UopWord) : Byte := w.extractLsb' 0 8

/-- The word `{kind, imm}`, which is `kind * 256 + imm` (30 R85). -/
def uopWord (kind : Nibble) (imm : Byte) : UopWord := kind ++ imm

/-- An instruction whose `imm` "must be 0". -/
def needZeroImm (w : UopWord) (i : Instr) : Except DecodeError Instr :=
  if uopImm w = 0 then .ok i else .error (.immNotZero (uopKind w))

/-- The level in `imm[0]` (30 R76). -/
def levelOfBit (b : Bool) : Level := if b then .high else .low

/-- RSTW: `imm[7:1]` must be 0 (30 R75). -/
def decodeRstw (w : UopWord) : Except DecodeError Instr :=
  if (uopImm w).extractLsb' 1 7 = 0 then .ok (.rstw (levelOfBit ((uopImm w).getLsbD 0)))
  else .error .rstwHighBits

/-- PHASE: `imm[7:4]` must be 0 and `imm[3:0]` at most 8 (30 R75, R76). -/
def decodePhase (w : UopWord) : Except DecodeError Instr :=
  if (uopImm w).extractLsb' 4 4 ≠ 0 then .error .phaseHighBits
  else if 8 < ((uopImm w).extractLsb' 0 4).toNat then .error .phaseCode
  else .ok (.phase ((uopImm w).extractLsb' 0 4))

/-- The micro-operation a word is, by the table of kinds (30 R75). The reserved kinds decode to the
table's reserved rows, whose meaning is the fault of 30 R81 (b). -/
def decodeUop (w : UopWord) : Except DecodeError Instr :=
  match (uopKind w).toNat with
  | 0x0 => needZeroImm w .endOp
  | 0x1 => needZeroImm w .setcmd
  | 0x2 => needZeroImm w .setdat
  | 0x3 => .ok (.xfer (uopImm w))
  | 0x4 => .ok (.cmd (uopImm w))
  | 0x5 => .ok (.dat (uopImm w))
  | 0x6 => decodeRstw w
  | 0x7 => .ok (.delay (uopImm w))
  | 0x8 => needZeroImm w .waitrdy
  | 0x9 => needZeroImm w .yield
  | 0xA => needZeroImm w .hardreset
  | 0xB => needZeroImm w .stream
  | 0xC => decodePhase w
  | 0xD => .ok (.uopReservedD (uopImm w))
  | 0xE => .ok (.uopReservedE (uopImm w))
  | _ => .ok (.uopReservedF (uopImm w))

/-! ### WIRE (30 R71, R77, R78, R80, R82) -/

/-- A wire frame: mode and byte (30 R71). -/
abbrev Frame := DcMode × Byte

/-- `mbit`: 0 for Cmd, 1 for Data (30 R71). -/
def modeBit : DcMode → BitVec 1
  | .cmd => 0
  | .data => 1

/-- The 9 bits `{mbit, v}` of a frame. -/
def frameWord (f : Frame) : WireWord := modeBit f.1 ++ f.2

/-- The frame of 9 bits. -/
def wordFrame (w : WireWord) : Frame :=
  (if w.getLsbD 8 then .data else .cmd, w.extractLsb' 0 8)

/-- A frame read without context: any command or any data frame. -/
def decodeWire (w : WireWord) : Instr :=
  match wordFrame w with
  | (.cmd, v) => .wireCmd v
  | (.data, v) => .wireData v

/-- The packed pixel byte `{p0, p1}` (30 R80). -/
def packPixels (p0 p1 : Nibble) : Byte := p0 ++ p1

/-- The first (left) pixel of a packed byte, bits 7 to 4 (30 R80). -/
def firstPixel (b : Byte) : Nibble := b.extractLsb' 4 4

/-- The second pixel of a packed byte, bits 3 to 0 (30 R80). -/
def secondPixel (b : Byte) : Nibble := b.extractLsb' 0 4

/-- A command and its data bytes as frames: the pseudo-operation WRITE of 30 R84. -/
def messageFrames (c : Byte) (ds : List Byte) : List Frame := (.cmd, c) :: ds.map (fun d => (.data, d))

/-- The frames of each wire row in a configuration (30 R71, R77, R78, R80); empty for the other formats. -/
def Instr.frames (c : Config) : Instr → List Frame
  | .wireCmd v => [(.cmd, v)]
  | .wireData v => [(.data, v)]
  | .frameStart => messageFrames c.cmdFrameStart []
  | .powerOn => messageFrames c.cmdPowerOn []
  | .refresh => messageFrames c.cmdRefresh [c.argRefresh]
  | .powerOff => messageFrames c.cmdPowerOff [c.argPowerOff]
  | .deepSleep => messageFrames c.cmdDeepSleep c.sleepPayload
  | .initEntry b ds => messageFrames b ds
  | .pixelData p0 p1 => [(.data, packPixels p0 p1)]
  | .hostopReserved | .initializeOp | .displayframe | .sleep | .endOp | .setcmd | .setdat | .xfer _
  | .cmd _ | .dat _ | .rstw _ | .delay _ | .waitrdy | .yield | .hardreset | .stream | .phase _
  | .uopReservedD _ | .uopReservedE _ | .uopReservedF _ => []

/-- All messages of a frame list, split at the command frames (30 R82): read from the end, a data frame
joins the message before it. The first component holds data frames that no command frame precedes. -/
def splitMessages : List Frame → List Byte × List (Byte × List Byte)
  | [] => ([], [])
  | (.data, d) :: fs => (d :: (splitMessages fs).1, (splitMessages fs).2)
  | (.cmd, c) :: fs => ([], (c, (splitMessages fs).1) :: (splitMessages fs).2)

/-- The wire row that frames are, given what the sequencer is doing (`none`: a frame by itself). The
named panel commands have no fixed byte (30 R77), so the sequencer state says which command stands at
this place of the operation (44 R181, R182), and the bytes must be the configuration's. -/
def decodeMessage (c : Config) (ctx : Option Phase) (fs : List Frame) : Except DecodeError Instr :=
  match ctx, fs with
  | none, [f] => .ok (decodeWire (frameWord f))
  | some .transmitting, [(.data, b)] => .ok (.pixelData (firstPixel b) (secondPixel b))
  | some .transmitting, _ => if fs = Instr.frameStart.frames c then .ok .frameStart else .error .notAMessage
  | some .poweringOn, _ => if fs = Instr.powerOn.frames c then .ok .powerOn else .error .notAMessage
  | some .refreshing, _ => if fs = Instr.refresh.frames c then .ok .refresh else .error .notAMessage
  | some .poweringOff, _ => if fs = Instr.powerOff.frames c then .ok .powerOff else .error .notAMessage
  | some .sleeping, _ => if fs = Instr.deepSleep.frames c then .ok .deepSleep else .error .notAMessage
  | some .initReplay, (.cmd, b) :: rest =>
    if rest.all (fun f => f.1 == .data) && decide ((b, rest.map Prod.snd) ∈ c.initTable)
    then .ok (.initEntry b (rest.map Prod.snd)) else .error .notAMessage
  | _, _ => .error .notAMessage

/-! ### Both ways -/

/-- The sequencer state in which a wire row is sent; `none` for the rows any frame fits. -/
def Instr.context : Instr → Option Phase
  | .frameStart | .pixelData _ _ => some .transmitting
  | .powerOn => some .poweringOn
  | .refresh => some .refreshing
  | .powerOff => some .poweringOff
  | .deepSleep => some .sleeping
  | .initEntry _ _ => some .initReplay
  | .hostopReserved | .initializeOp | .displayframe | .sleep | .endOp | .setcmd | .setdat | .xfer _
  | .cmd _ | .dat _ | .rstw _ | .delay _ | .waitrdy | .yield | .hardreset | .stream | .phase _
  | .uopReservedD _ | .uopReservedE _ | .uopReservedF _ | .wireCmd _ | .wireData _ => none

/-- The instruction that words are, in a configuration and a context. -/
def decode (c : Config) (ctx : Option Phase) : Words → Except DecodeError Instr
  | .hostop w => .ok (decodeHostop w)
  | .uop w => decodeUop w
  | .wire ws => decodeMessage c ctx (ws.map wordFrame)

/-- `imm[0]` of a level (30 R76). -/
def levelByte : Level → Byte
  | .low => 0
  | .high => 1

/-- The words of an instruction, from the tables of 30 R73, R75, R77, R78 and R80. -/
def encode (c : Config) (i : Instr) : Words :=
  match i with
  | .hostopReserved => .hostop 0b00
  | .initializeOp => .hostop 0b01
  | .displayframe => .hostop 0b10
  | .sleep => .hostop 0b11
  | .endOp => .uop (uopWord 0x0 0)
  | .setcmd => .uop (uopWord 0x1 0)
  | .setdat => .uop (uopWord 0x2 0)
  | .xfer v => .uop (uopWord 0x3 v)
  | .cmd b => .uop (uopWord 0x4 b)
  | .dat d => .uop (uopWord 0x5 d)
  | .rstw l => .uop (uopWord 0x6 (levelByte l))
  | .delay t => .uop (uopWord 0x7 t)
  | .waitrdy => .uop (uopWord 0x8 0)
  | .yield => .uop (uopWord 0x9 0)
  | .hardreset => .uop (uopWord 0xA 0)
  | .stream => .uop (uopWord 0xB 0)
  | .phase p => .uop (uopWord 0xC (p.setWidth 8))
  | .uopReservedD imm => .uop (uopWord 0xD imm)
  | .uopReservedE imm => .uop (uopWord 0xE imm)
  | .uopReservedF imm => .uop (uopWord 0xF imm)
  | .wireCmd _ | .wireData _ | .frameStart | .powerOn | .refresh | .powerOff | .deepSleep
  | .initEntry _ _ | .pixelData _ _ => .wire ((i.frames c).map frameWord)

/-- The expansion of the composite micro-operations (30 R84) in a configuration whose holds fit a DELAY;
any other instruction is its own expansion. -/
def Instr.expansion (c : Config) : Instr → List Instr
  | .cmd b => [.setcmd, .xfer b]
  | .dat d => [.setdat, .xfer d]
  | .hardreset =>
    [.rstw .high, .delay (BitVec.ofNat 8 c.tRstHi1), .rstw .low, .delay (BitVec.ofNat 8 c.tRstLo),
      .rstw .high, .delay (BitVec.ofNat 8 c.tRstHi2)]
  | i => [i]

/-- `WRITE c, ds`: the notation of 30 R84 for one command and its data bytes. -/
def writeExpansion (b : Byte) (ds : List Byte) : List Instr := .cmd b :: ds.map .dat

/-! ### The words of the opcode table as the host's table numbers them -/

/-- Whether a word is refused by the micro-operation decoder. -/
def refusedUop (w : UopWord) : Bool :=
  match decodeUop w with
  | .ok _ => false
  | .error _ => true

/-- The format of a row's word by its number of bits: the table's rows have 2, 9 or 12 bits, in whole bytes 8
or 16. Of 16 bits that both a micro-operation and a wire frame can have, the word is a micro-operation where
it decodes as one, for that is what the machine fetches, and else a wire frame if it has at most 9 bits
(log 17). -/
def tableFormat (nbits w : Nat) : Format :=
  if nbits ≤ 8 then .hostop
  else if nbits = 9 then .wire
  else if nbits = 16 && decide (w < 512) && refusedUop (BitVec.ofNat 12 w) then .wire
  else .uop

/-- The instruction the decoder reads from an instruction whose bits are `w`, `none` where it refuses or
where `w` has a bit above the format's width. -/
def decodeTableWord (nbits w : Nat) : Option Instr :=
  match tableFormat nbits w with
  | .hostop => if w < 4 then some (decodeHostop (BitVec.ofNat 2 w)) else none
  | .wire => if w < 512 then some (decodeWire (BitVec.ofNat 9 w)) else none
  | .uop => if w < 4096 then (decodeUop (BitVec.ofNat 12 w)).toOption else none

end Sys2Proof
end

