-- ==== Sys2Proof/Machine/Types.lean ====
section
/-! DEFINITION. The types of the machine's registers, lines and events (spec/10_state.md R24 to R42;
spec/00_scope.md R10). Types only: what they mean is in the files that use them. -/

namespace Sys2Proof.Machine

/-- The operating mode `MODE` (10 R28). Code 3 is never written; reading it is `fault BadMode`. -/
inductive Mode where
  | unconfigured
  | ready
  | asleep
  | reserved
deriving DecidableEq, Repr, Inhabited

/-- The result register `STATUS` (10 R30); the reserved code 7 is no constructor (93 U10). -/
inductive Status where
  | none
  | ok
  | setupFailure
  | notConfigured
  | badLength
  | hwNotResponding
  | badOp
deriving DecidableEq, Repr, Inhabited

/-- The three micro-programs (10 R32, 20 R53). The register `PROG` is an `Option Prog`. -/
inductive Prog where
  | init
  | display
  | sleep
deriving DecidableEq, Repr, Inhabited

/-- The level of `SCK` relative to the rest level, which the polarity of `SPI_MODE` gives and no rule
reads (40 R103, 00 R7; log 9). -/
inductive SckLevel where
  | idle
  | active
deriving DecidableEq, Repr, Inhabited

/-- The serial side of the bus: the lines `SCK` and `MOSI` (10 R24), the shift register `SH` and the bit
counter `BC` (10 R35, 40 R103). `none` on a line: no defined level. -/
structure Serial where
  sck  : Option SckLevel
  mosi : Option Bool
  sh   : Byte
  bc   : BitVec 4
deriving DecidableEq, Repr, Inhabited

/-- One clock period of a select window: the level `MOSI` holds through it, and the levels of `SCK` in
order (40 R103). -/
structure BitSlot where
  mosi : Bool
  sck  : List SckLevel
deriving DecidableEq, Repr

/-- The events of the trace (00 R10). -/
inductive Event where
  /-- Bus configured, the outputs start being driven. -/
  | cfg
  /-- Reset line written. -/
  | rstW (l : Level)
  /-- PPD held for at least `d` ms. -/
  | wait (d : Nat)
  /-- Discriminator written. -/
  | dcW (m : DcMode)
  /-- Select written. -/
  | csW (l : Level)
  /-- Eight bits shifted out, most significant first. -/
  | byte (v : Byte)
  /-- Ready line sampled. -/
  | poll (r : Bool)
  /-- Control yielded for an approximate interval. -/
  | yield
  /-- Decode warning for an input code. -/
  | warn (c : Nibble)
  /-- An operation ended. -/
  | done (op : HostOp) (st : Status)
deriving DecidableEq, Repr

/-- A frame buffer: offsets and bytes, in the canonical form of `Memory.wf` (20 R51; log 5). -/
abbrev Memory := List Host.Cell

/-- The micro-program space (20 R53). -/
structure Rom where
  init    : List UopWord
  display : List UopWord
  sleep   : List UopWord
deriving DecidableEq, Repr, Inhabited

/-- The input lines as the coming step samples them (10 R25, R41). They are the environment's, not
registers of PPD: every step reads them once and draws new ones (log 4). -/
structure Pins where
  /-- `rst`, the block reset. -/
  rst : Bool
  /-- `req_valid`. -/
  reqValid : Bool
  /-- `req_op`. -/
  reqOp : HostWord
  /-- `req_len`. -/
  reqLen : BitVec 18
  /-- What the frame-buffer read port (`fb_addr`, `fb_data`) would return. -/
  fb : Memory
  /-- `cfg_ok`. -/
  cfgOk : Bool
  /-- `RDY`: true is high, ready. -/
  rdy : Bool
deriving DecidableEq, Repr, Inhabited

end Sys2Proof.Machine
end

