-- ==== Sys2Proof/Machine/Memory.lean ====
section
/-! DEFINITION. The frame buffer as memory (spec/20_memory.md R50 to R52): a sparse list of offsets and
bytes in one canonical form. -/

namespace Sys2Proof.Machine

/-- What an offset that is not listed reads as (log 5). Every buffer of bytes has exactly one canonical
form, so nothing is assumed of the host's buffer. -/
def Memory.fill : Byte := 0

/-- `MemRead(FB, a, 1)` (20 R51). -/
def Memory.read : Memory → Nat → Byte
  | [], _ => Memory.fill
  | (k, v) :: m, a => if k = a then v else Memory.read m a

/-- Puts a byte into a buffer, keeping the canonical form. PPD itself never writes memory (00 section 6);
this is how a buffer is built on the host's side. -/
def Memory.write : Memory → Nat → Byte → Memory
  | [], a, b => if b = Memory.fill then [] else [(a, b)]
  | (k, v) :: m, a, b =>
    if a < k then (if b = Memory.fill then (k, v) :: m else (a, b) :: (k, v) :: m)
    else if a = k then (if b = Memory.fill then m else (k, b) :: m)
    else (k, v) :: Memory.write m a b

/-- Whether every listed offset is above `a`. -/
def Memory.above (a : Nat) : Memory → Bool
  | [] => true
  | (k, _) :: m => decide (a < k) && Memory.above a m

/-- The canonical form: offsets strictly rising, no entry equal to the fill. -/
def Memory.wf : Memory → Bool
  | [] => true
  | (k, v) :: m => decide (v ≠ Memory.fill) && Memory.above k m && Memory.wf m

/-- The canonical form of cells in any order; a later cell replaces an earlier one of its offset. -/
def Memory.ofCells (cs : List Host.Cell) : Memory := cs.foldl (fun m c => Memory.write m c.1 c.2) []

/-- The bytes from offset `a` on, in a buffer. -/
def Memory.ofBytesAt (a : Nat) : List Byte → Memory
  | [] => []
  | b :: bs => Memory.write (Memory.ofBytesAt (a + 1) bs) a b

/-- The buffer that holds the bytes at the offsets 0, 1, 2, … (20 R51). -/
def Memory.ofBytes (bs : List Byte) : Memory := Memory.ofBytesAt 0 bs

end Sys2Proof.Machine
end

