-- ==== Sys2Proof/Machine/Geometry.lean ====
section
/-! DEFINITION. Quantities derived from the configuration (spec/00_scope.md R6, R8) and the place of a
pixel in the frame buffer (spec/20_memory.md R52). -/

namespace Sys2Proof.Machine

/-- `PIX_PER_BYTE` (00 R6). -/
def pixPerByte : Nat := 2

/-- `FRAME_BYTES = WIDTH*HEIGHT/2` (00 R6). -/
def frameBytes (c : Config) : Nat := c.width * c.height / pixPerByte

/-- `ROW_BYTES = WIDTH/2` (00 R6). -/
def rowBytes (c : Config) : Nat := c.width / pixPerByte

/-- `CHUNK_BYTES = CHUNK_ROWS * ROW_BYTES` (00 R8). -/
def chunkBytes (c : Config) : Nat := c.chunkRows * rowBytes c

/-- `N_CHUNKS = ceil(HEIGHT / CHUNK_ROWS)` (00 R8). -/
def nChunks (c : Config) : Nat := (c.height + c.chunkRows - 1) / c.chunkRows

/-- The offset of the byte that holds the pixel at column `x`, row `y` (20 R52). -/
def pixelOffset (c : Config) (x y : Nat) : Nat := y * rowBytes c + x / 2

/-- The code of the pixel at column `x`, row `y`: the upper nibble for even `x`, the lower for odd
(20 R52). -/
def pixelAt (c : Config) (fb : Memory) (x y : Nat) : Nibble :=
  if x % 2 = 0 then firstPixel (fb.read (pixelOffset c x y)) else secondPixel (fb.read (pixelOffset c x y))

/-- The electrical level of the discriminator in a mode (10 R22, parameter P9). No rule reads it. -/
def dcLevel (c : Config) : DcMode → Level
  | .cmd => c.dcLevelCmd
  | .data => if c.dcLevelCmd = .low then .high else .low

end Sys2Proof.Machine
end

