-- ==== Sys2Proof/Machine/Rom.lean ====
section
/-! DEFINITION. The contents of the micro-program space for a configuration: `ROM(Init)`
(spec/42_init_sequence.md R142), `ROM(Display)` (spec/44_frame_power.md R182), `ROM(Sleep)` (44 R191),
as words, and what a well-formed micro-program is (42 R149). -/

namespace Sys2Proof.Machine

/-- The word `kind * 256 + imm` (30 R85). -/
def romWord (kind imm : Nat) : UopWord := BitVec.ofNat 12 (kind * 256 + imm)

/-- `CMD c`. -/
def romCmd (c : Byte) : UopWord := romWord 0x4 c.toNat

/-- `DAT d`. -/
def romDat (d : Byte) : UopWord := romWord 0x5 d.toNat

/-- The words of one init entry: its CMD, then its DATs in order (42 R142). -/
def romEntry (e : Byte × List Byte) : List UopWord := romCmd e.1 :: e.2.map romDat

/-- The words of the whole init table, entry by entry (42 R142). -/
def romTable (t : List (Byte × List Byte)) : List UopWord := t.flatMap romEntry

/-- `ROM(Init)` (42 R142). -/
def romInit (c : Config) : List UopWord :=
  [0xC05, 0xA00, 0xC06, 0x800, 0xC07] ++ (romTable c.initTable ++ [0x000])

/-- `ROM(Display)` (44 R182). -/
def romDisplay (c : Config) : List UopWord :=
  [0xC01, romCmd c.cmdFrameStart, 0xB00,
   0xC02, romCmd c.cmdPowerOn, 0x800,
   0xC03, romCmd c.cmdRefresh, romDat c.argRefresh, 0x800,
   0xC04, romCmd c.cmdPowerOff, romDat c.argPowerOff, 0x800,
   0x000]

/-- `ROM(Sleep)` (44 R191). -/
def romSleep (c : Config) : List UopWord :=
  [0xC08, romCmd c.cmdDeepSleep] ++ (c.sleepPayload.map romDat ++ [0x600, 0x000])

/-- The micro-program space of a configuration (20 R53). -/
def Rom.ofConfig (c : Config) : Rom where
  init := romInit c
  display := romDisplay c
  sleep := romSleep c

/-- The words of a micro-program. -/
def Rom.words (r : Rom) : Prog → List UopWord
  | .init => r.init
  | .display => r.display
  | .sleep => r.sleep

/-- Replaces a micro-program. Nothing in the machine does (20 R53); the host's placing of a word does. -/
def Rom.setWords (r : Rom) (p : Prog) (ws : List UopWord) : Rom :=
  match p with
  | .init => { r with init := ws }
  | .display => { r with display := ws }
  | .sleep => { r with sleep := ws }

/-- Whether a word is a micro-operation: it decodes, and not to a reserved kind (30 R81 (b)). -/
def isUop (w : UopWord) : Bool :=
  match decodeUop w with
  | .ok (.uopReservedD _) | .ok (.uopReservedE _) | .ok (.uopReservedF _) => false
  | .ok _ => true
  | .error _ => false

/-- Whether a word is XFER. -/
def isXferWord (w : UopWord) : Bool := uopKind w == 0x3

/-- Whether a word writes the discriminator: SETCMD or SETDAT. -/
def isSetWord (w : UopWord) : Bool := w == 0x100 || w == 0x200

/-- A well-formed micro-program (42 R149), read word by word: `prev` says whether the word before writes
the discriminator. Every word is a micro-operation, the last and no other is END, none is `PHASE Idle`,
and every XFER follows a SETCMD or SETDAT. -/
def wellFormedFrom (prev : Bool) : List UopWord → Bool
  | [] => false
  | [w] => w == 0x000
  | w :: w' :: ws =>
    isUop w && w != 0x000 && w != 0xC00 && (!isXferWord w || prev) && wellFormedFrom (isSetWord w) (w' :: ws)

/-- A well-formed micro-program (42 R149). -/
def wellFormedProgram (ws : List UopWord) : Bool := wellFormedFrom false ws

end Sys2Proof.Machine
end

