-- ==== Sys2Proof/Machine/SerialLine.lean ====
section
/-! DEFINITION. XFER at the bit level (spec/40_bus_transport.md R103; spec/30_encoding.md R72;
spec/20_memory.md R56): the shift register, the bit counter and the two serial lines. A refinement below
the machine's step: one XFER is one step, and the step leaves these registers as the last clock period
does. -/

namespace Sys2Proof.Machine

/-- The serial side before any configuration: lines undriven (10 R40). `SH` and `BC` are unspecified by
the spec after reset (log 8). -/
def Serial.reset : Serial := { sck := none, mosi := none, sh := 0, bc := 0 }

/-- Bus configuration: `SCK` rests at its idle level, `MOSI` is unspecified (42 R141). -/
def Serial.configured (x : Serial) : Serial := { x with sck := some .idle, mosi := none }

/-- `SH <- v`, `BC <- 0` (40 R103). -/
def Serial.load (v : Byte) (x : Serial) : Serial := { x with sh := v, bc := 0 }

/-- One clock period: `SH[7]` on `MOSI`, one excursion of `SCK`, then the shift and the count (40 R103). -/
def Serial.period (x : Serial) : Serial :=
  { sck := some .idle, mosi := some (x.sh.getLsbD 7), sh := x.sh <<< 1, bc := x.bc + 1 }

/-- What the panel sees in that period. -/
def Serial.slot (x : Serial) : BitSlot := { mosi := x.sh.getLsbD 7, sck := [.idle, .active, .idle] }

/-- The serial side after `n` periods. -/
def Serial.periods : Nat → Serial → Serial
  | 0, x => x
  | n + 1, x => Serial.periods n x.period

/-- The slots of `n` periods, in order. -/
def Serial.slots : Nat → Serial → List BitSlot
  | 0, _ => []
  | n + 1, x => x.slot :: Serial.slots n x.period

/-- The select window of a byte: eight periods, then `SCK` at rest and `MOSI` unspecified again
(40 R103; log 9). -/
def Serial.shiftOut (v : Byte) (x : Serial) : Serial :=
  { (Serial.periods 8 (x.load v)) with mosi := none }

/-- The bits of a byte in the order the panel samples them (30 R72). -/
def byteSlots (v : Byte) : List BitSlot := Serial.slots 8 (Serial.reset.load v)

end Sys2Proof.Machine
end

