-- ==== Sys2Proof/Machine/Trace.lean ====
section
/-! DEFINITION. Reading the event trace (spec/00_scope.md R10, R11; spec/40_bus_transport.md R106): the
frame projection and the well-framed condition. No rule of the machine reads the trace (10 R39); these
are for statements about it. -/

namespace Sys2Proof.Machine

/-- The frames of a trace, given the mode last written before it (00 R10): each byte with the mode of
the latest `DcW`. A byte that no `DcW` precedes has no mode and is no frame. -/
def framesFrom : Option DcMode → List Event → List Frame
  | _, [] => []
  | _, .dcW m :: t => framesFrom (some m) t
  | some m, .byte v :: t => (m, v) :: framesFrom (some m) t
  | none, .byte _ :: t => framesFrom none t
  | d, .cfg :: t => framesFrom d t
  | d, .rstW _ :: t => framesFrom d t
  | d, .wait _ :: t => framesFrom d t
  | d, .csW _ :: t => framesFrom d t
  | d, .poll _ :: t => framesFrom d t
  | d, .yield :: t => framesFrom d t
  | d, .warn _ :: t => framesFrom d t
  | d, .done _ _ :: t => framesFrom d t

/-- The frame trace `frames(t)` (00 R10). -/
def frames (t : List Event) : List Frame := framesFrom none t

/-- What a reader of the trace knows at a point: whether a select window is open, whether its byte has
been sent, and whether the discriminator was written since the last byte. -/
structure Scan where
  inWindow : Bool
  sent     : Bool
  fresh    : Bool
deriving DecidableEq, Repr

/-- Before the first event. -/
def Scan.start : Scan := { inWindow := false, sent := false, fresh := false }

/-- An event that may stand only outside a select window: `CS = H` at every one (40 R106 (b), (c)). -/
def Scan.outside (s : Scan) (t : Scan) : Option Scan := if s.inWindow then none else some t

/-- Reads one event; `none` where the trace is not well framed (00 R11, 40 R106): a window opened twice,
an empty window, two bytes in a window, a byte outside one, a byte without a `DcW` of its own, or
anything else inside a window. -/
def Scan.event (s : Scan) : Event → Option Scan
  | .dcW _ => s.outside { s with fresh := true }
  | .csW .low => s.outside { s with inWindow := true, sent := false }
  | .csW .high => if s.inWindow && !s.sent then none else some { s with inWindow := false, sent := false }
  | .byte _ => if s.inWindow && !s.sent && s.fresh then some { s with sent := true, fresh := false } else none
  | .cfg | .rstW _ | .wait _ | .poll _ | .yield | .warn _ | .done _ _ => s.outside s

/-- Reads a list of events. -/
def Scan.events : Scan → List Event → Option Scan
  | s, [] => some s
  | s, e :: t =>
    match s.event e with
    | none => none
    | some s' => s'.events t

/-- A well-framed trace (00 R11): it can be read to its end, and no window is left open. -/
def wellFramed (t : List Event) : Bool :=
  match Scan.start.events t with
  | none => false
  | some s => !s.inWindow

/-- Whether frames may be sent to the panel after an event (60 R236, 70 R268): a bus configuration
opens the session, a fatal end or a completed SLEEP closes it, and a byte in a closed one is `none`. -/
def sessionEvent (live : Bool) : Event → Option Bool
  | .cfg => some true
  | .byte _ => if live then some true else none
  | .done _ .setupFailure => some false
  | .done _ .hwNotResponding => some false
  | .done .sleep .ok => some false
  | .done _ _ | .dcW _ | .csW _ | .rstW _ | .wait _ | .poll _ | .yield | .warn _ => some live

/-- Reads a list of events. -/
def sessionEvents : Bool → List Event → Option Bool
  | live, [] => some live
  | live, e :: t =>
    match sessionEvent live e with
    | none => none
    | some live' => sessionEvents live' t

/-- Whether an event is `Yield`. -/
def Event.isYield : Event → Bool
  | .yield => true
  | _ => false

/-- A trace without its `Yield` events (41 R129, 44 R186). -/
def withoutYields (t : List Event) : List Event := t.filter (fun e => !e.isYield)

/-- The number of `Yield` events (44 R185). -/
def yieldCount (t : List Event) : Nat := (t.filter Event.isYield).length

/-- Whether an event is a `Poll`. -/
def Event.isPoll : Event → Bool
  | .poll _ => true
  | _ => false

/-- The results of the polls, in order. -/
def pollResults : List Event → List Bool
  | [] => []
  | .poll r :: t => r :: pollResults t
  | .cfg :: t | .rstW _ :: t | .wait _ :: t | .dcW _ :: t | .csW _ :: t | .byte _ :: t | .yield :: t
  | .warn _ :: t | .done _ _ :: t => pollResults t

end Sys2Proof.Machine
end

