-- ==== Sys2Proof/Machine/State.lean ====
section
/-! DEFINITION. The whole state of the block (spec/10_state.md R20 to R42), the reasons a step can stop,
and the state after block reset (10 R40, spec/70_reset_and_hazards.md R260). -/

namespace Sys2Proof.Machine

/-- The state of the block: the tuple of 10 R42, the registers below the step (10 R35), the lines of
10 R24, the micro-program space (20 R53) and the configuration (00 R6, R7; log 1); and the three fields
that are the model's own: `inWait` (log 10), `pins` (log 4), `draws` (log 4, log 7). -/
structure State where
  /-- The configuration; no step writes it. -/
  cfg : Config
  /-- The micro-programs; no step writes them (20 R53). -/
  rom : Rom
  /-- Whether PPD drives its outputs (10 R27). -/
  drv : Bool
  /-- Select, asserted low (10 R21). -/
  cs : Option Level
  /-- The discriminator (10 R22). -/
  dc : Option DcMode
  /-- The reset line to the panel (10 R23). -/
  rst : Option Level
  /-- `SCK`, `MOSI`, `SH`, `BC` (10 R24, R35). -/
  ser : Serial
  /-- `MODE` (10 R28). -/
  mode : Mode
  /-- `PHASE` (10 R29). -/
  phase : Phase
  /-- `STATUS` (10 R30). -/
  status : Status
  /-- `WARN_CNT` (10 R31). -/
  warnCnt : Nat
  /-- `PROG` (10 R32). -/
  prog : Option Prog
  /-- `UPC` (10 R32). -/
  upc : Nat
  /-- `dc_fresh` (10 R33). -/
  dcFresh : Bool
  /-- `BCNT` (10 R34). -/
  bcnt : Nat
  /-- `CCNT` (10 R34). -/
  ccnt : Nat
  /-- `PCNT` (10 R35). -/
  pcnt : Nat
  /-- `LEN` (10 R35). -/
  len : Nat
  /-- Whether the WAITRDY at `UPC` has begun (41 R126, "if entering this µop"). The model's own. -/
  inWait : Bool
  /-- `TMR`, the interval timer (10 R35, 60 R237), at 0 whenever a step ends (log 8). -/
  tmr : Nat
  /-- The frame buffer of the DISPLAYFRAME in progress, empty otherwise (10 R42). -/
  fb : Memory
  /-- The event trace, ghost (10 R39). -/
  trace : List Event
  /-- The clock in milliseconds, ghost (10 R39). -/
  now : Rat
  /-- The input lines the coming step samples. The model's own. -/
  pins : Pins
  /-- How many draws have been taken from the free values. The model's own. -/
  draws : Nat
deriving DecidableEq, Repr

/-- The faults of the model (60 R227): the machine stops. Each is safe: a stopped state satisfies no
claim, and none is reached from block reset (60 R227). -/
inductive Fault where
  /-- A pin write while `drv = 0`; raised by SETCMD, SETDAT, XFER, CMD, DAT, RSTW, HARDRESET, STREAM and
  the wire rows (40 R100 to R105, 41 R120). Safe. -/
  | notDriven
  /-- XFER without a discriminator write since the last byte (40 R102). Safe. -/
  | dcNotSet
  /-- XFER while select is not high (40 R102). Safe. -/
  | selectAlreadyLow
  /-- A word that is no micro-operation (30 R81 (b)); raised by the fetch, by PHASE with a code above 8
  and by the reserved kinds. Safe. -/
  | illegalUop
  /-- `MODE` holds its reserved code where DISPLAYFRAME or SLEEP reads it (10 R28). Safe. -/
  | badMode
  /-- `UPC` is at or past the end of the micro-program (10 R32 says it never is); raised by the fetch
  (log 3). Safe. -/
  | upcPastEnd
  /-- END, or an error end of WAITRDY, with `PROG = none`: there is no operation to end (42 R147, 42 R150;
  log 15). Safe. -/
  | noOperation
  /-- STREAM outside the display micro-program (44 R184 requires `PROG = Display`; log 14). Safe. -/
  | streamOutsideDisplay
deriving DecidableEq, Repr

/-- The refusals of the model. -/
inductive Refusal where
  /-- An instruction of the table without a meaning yet; raised by the dispatch only. Safe. -/
  | notModelled (mnemonic : String)
  /-- HARDRESET in a configuration whose holds are shorter than 20, 1, 20 ms (41 R123, 93 U1): no
  configuration of this hardware. Safe. -/
  | shortResetHold
deriving DecidableEq, Repr

/-- The input lines before the first sample: none asserted (log 4). -/
def Pins.inactive : Pins where
  rst := false
  reqValid := false
  reqOp := 0
  reqLen := 0
  fb := []
  cfgOk := false
  rdy := false

/-- The values of 10 R40 for a configuration and its micro-programs. -/
def State.resetWith (c : Config) (r : Rom) : State where
  cfg := c
  rom := r
  drv := false
  cs := none
  dc := none
  rst := none
  ser := Serial.reset
  mode := .unconfigured
  phase := .idle
  status := .none
  warnCnt := 0
  prog := none
  upc := 0
  dcFresh := false
  bcnt := 0
  ccnt := 0
  pcnt := 0
  len := 0
  inWait := false
  tmr := 0
  fb := []
  trace := []
  now := 0
  pins := Pins.inactive
  draws := 0

/-- The machine right after block reset (10 R40, 70 R260), for the hardware's configuration. -/
def State.reset : State := State.resetWith Config.hardware (Rom.ofConfig Config.hardware)

end Sys2Proof.Machine
end

