-- ==== Sys2Proof/Machine/Flags.lean ====
section
/-! DEFINITION. The one flag of the block, `dc_fresh` (spec/10_state.md R33): set by a discriminator
write, required and cleared by a byte transfer. -/

namespace Sys2Proof.Machine

/-- `dc_fresh <- 1` (40 R100, R101). -/
def State.setFresh (s : State) : State := { s with dcFresh := true }

/-- `dc_fresh <- 0` (40 R102). -/
def State.clearFresh (s : State) : State := { s with dcFresh := false }

end Sys2Proof.Machine
end

