-- ==== Sys2Proof/Machine/Operands.lean ====
section
/-! DEFINITION. The operands and codes (spec/30_encoding.md R73, R76; spec/10_state.md R28 to R30): how
an immediate is read, and the numbers of the register codes. -/

namespace Sys2Proof.Machine

/-- The hold of a DELAY in milliseconds: `zext(imm)`, no scaling (30 R76). -/
def holdMs (t : Byte) : Nat := t.toNat

/-- The phase of a code, `none` for the reserved codes 9 to 15 (10 R29, 30 R76). -/
def phaseOfCode (p : Nibble) : Option Phase :=
  match p.toNat with
  | 0 => some .idle
  | 1 => some .transmitting
  | 2 => some .poweringOn
  | 3 => some .refreshing
  | 4 => some .poweringOff
  | 5 => some .resetting
  | 6 => some .initWait
  | 7 => some .initReplay
  | 8 => some .sleeping
  | _ => none

/-- The code of a phase (10 R29). -/
def phaseCode : Phase → Nibble
  | .idle => 0
  | .transmitting => 1
  | .poweringOn => 2
  | .refreshing => 3
  | .poweringOff => 4
  | .resetting => 5
  | .initWait => 6
  | .initReplay => 7
  | .sleeping => 8

/-- The code of a mode (10 R28). -/
def modeCode : Mode → BitVec 2
  | .unconfigured => 0
  | .ready => 1
  | .asleep => 2
  | .reserved => 3

/-- The code of a status (10 R30). -/
def statusCode : Status → BitVec 3
  | .none => 0
  | .ok => 1
  | .setupFailure => 2
  | .notConfigured => 3
  | .badLength => 4
  | .hwNotResponding => 5
  | .badOp => 6

/-- The host operation a micro-program runs (42 R147, "op <- PROG"). -/
def Prog.op : Prog → HostOp
  | .init => .initializeOp
  | .display => .displayframe
  | .sleep => .sleep

/-- The phase in which a micro-program begins: the code that 10 R29 lists for its start, and that its first word
names (42 R142, 44 R182, R191). -/
def Prog.firstPhase : Prog → Phase
  | .init => .resetting
  | .display => .transmitting
  | .sleep => .sleeping

end Sys2Proof.Machine
end

