-- ==== Sys2Proof/Machine/Ops.lean ====
section
/-! DEFINITION. The named operations the meanings are built from: events, lines, the byte transfer, time,
the start and the end of an operation. `State.abort` is the one operation by which an error ends a running
operation (spec/60_exceptions.md R225, R230). -/

namespace Sys2Proof.Machine

/-- Appends events to the trace (00 R10). -/
def State.emit (es : List Event) (s : State) : State := { s with trace := s.trace ++ es }

/-- `UPC <- UPC + 1` (10 R32). -/
def State.advance (s : State) : State := { s with upc := s.upc + 1 }

/-- `pin(DC) <- m`, with its event (40 R100, R101). -/
def State.setDc (m : DcMode) (s : State) : State := State.emit [.dcW m] { s with dc := some m }

/-- `pin(RST) <- l`, with its event (41 R120). -/
def State.setRst (l : Level) (s : State) : State := State.emit [.rstW l] { s with rst := some l }

/-- `pin(CS) <- l`, with its event (40 R102, 42 R141). -/
def State.setCs (l : Level) (s : State) : State := State.emit [.csW l] { s with cs := some l }

/-- SETCMD and SETDAT: the discriminator is written and `dc_fresh` set (40 R100, R101). -/
def State.select (m : DcMode) (s : State) : State := (s.setDc m).setFresh

/-- One byte in its own select window (40 R102, R103): select low, eight bits out, select high,
`dc_fresh` cleared. One step, so nothing stands between the three events (20 R59). -/
def State.transfer (v : Byte) (s : State) : State :=
  let t := s.setCs .low
  let t := State.emit [.byte v] { t with ser := t.ser.shiftOut v }
  (t.setCs .high).clearFresh

/-- One wire frame (30 R71): the discriminator, then the byte (40 R104, R105). -/
def State.sendFrame (f : Frame) (s : State) : State := (s.select f.1).transfer f.2

/-- Wire frames in list order (20 R57). -/
def State.sendFrames : List Frame → State → State
  | [], s => s
  | f :: fs, s => State.sendFrames fs (s.sendFrame f)

/-- A free excess over a hold: any rational at or above 0 (41 R121; log 7). -/
def freeExcess (k : Nat) : Rat := ((Config.freeTime k).1 : Rat) / (((Config.freeTime k).2 + 1 : Nat) : Rat)

/-- A free interval: any rational above 0 (41 R124; log 7). -/
def freeInterval (k : Nat) : Rat :=
  (((Config.freeTime k).1 + 1 : Nat) : Rat) / (((Config.freeTime k).2 + 1 : Nat) : Rat)

/-- `wait(d)`: at least `d` ms pass (00 section 6, 41 R121). -/
def State.hold (d : Nat) (s : State) : State :=
  State.emit [.wait d] { s with now := s.now + d + freeExcess s.draws, draws := s.draws + 1, tmr := 0 }

/-- The effect of a yield: some time above 0 passes (41 R124). -/
def State.pause (s : State) : State :=
  State.emit [.yield] { s with now := s.now + freeInterval s.draws, draws := s.draws + 1, tmr := 0 }

/-- The reset pulse (41 R122): high, low, high, with its three holds. -/
def State.resetPulse (s : State) : State :=
  ((((((s.setRst .high).hold s.cfg.tRstHi1).setRst .low).hold s.cfg.tRstLo).setRst .high).hold s.cfg.tRstHi2)

/-- Whether the holds are at least what the panel requires (41 R123). -/
def holdsOk (c : Config) : Bool := decide (20 ≤ c.tRstHi1) && decide (1 ≤ c.tRstLo) && decide (20 ≤ c.tRstHi2)

/-- An outcome that writes pins, and so needs `drv = 1` (40 R109): `fault NotDriven` otherwise. -/
def ifDriven (s : State) (t : State) : Host.Outcome State Fault Refusal :=
  if s.drv then .next t else .fault .notDriven

/-- `PROG <- p`, `UPC <- 0`: an admitted operation owns the sequencer (44 R199). Dispatch writes `PHASE` too, so
that it is `Idle` exactly when `PROG = none` (10 R29); the code it writes is DEDUCED (log 12). -/
def State.beginProgram (p : Prog) (s : State) : State :=
  { s with prog := some p, upc := 0, phase := p.firstPhase, inWait := false }

/-- The end of an operation, for END and for the error ends (42 R147, 60 R230): the result recorded, the
sequencer idle, the frame buffer let go (10 R37, R42). -/
def State.finish (op : HostOp) (st : Status) (s : State) : State :=
  State.emit [.done op st]
    { s with status := st, phase := .idle, prog := none, upc := 0, inWait := false, fb := [] }

/-- The end of an operation by a fatal error: `raise E` (00 section 6; 60 R221, R225, R230). `MODE` drops to
`Unconfigured`; the pins, `drv`, `WARN_CNT` and `dc_fresh` are left. -/
def State.abort (op : HostOp) (st : Status) (s : State) : State :=
  { (s.finish op st) with mode := .unconfigured }

/-- The rejection of a request (60 R223, R224, R226): the result recorded, nothing else changed. -/
def State.reject (op : HostOp) (st : Status) (s : State) : State := State.emit [.done op st] { s with status := st }

/-- Successful bus configuration (42 R141): outputs driven, select high, clock at rest. -/
def State.configureBus (s : State) : State :=
  State.setCs .high (State.emit [.cfg] { s with drv := true, ser := s.ser.configured })

/-- Block reset `rst` (10 R40, 70 R260, R261): every register at its reset value, the trace restarted. The
configuration and the micro-programs are fixed for the machine (20 R66); the input lines are not PPD's. -/
def State.blockReset (s : State) : State :=
  { (State.resetWith s.cfg s.rom) with pins := s.pins, draws := s.draws }

/-- `req_ready`: 1 exactly when `PHASE = Idle` (10 R41, 44 R199). It is 0 from admission to `Done` (44 R193). A
`PHASE Idle` executed in mid-program, which 42 R149 calls ill formed, raises it while `PROG` is set (42 R148);
the spec does not say what the sequencer then does with a request: here `step` goes on with the micro-program
and takes none (42 R150). DESIGN CHOICE (log 12). -/
def State.reqReady (s : State) : Bool := decide (s.phase = .idle)

end Sys2Proof.Machine
end

