-- ==== Sys2Proof/Machine/Bus.lean ====
section
/-! DEFINITION. The bus transport micro-operations SETCMD, SETDAT, XFER, CMD, DAT
(spec/40_bus_transport.md R100 to R105). -/

namespace Sys2Proof.Machine

/-- SETCMD (40 R100). -/
def execSetcmd (s : State) : Host.Outcome State Fault Refusal := ifDriven s (s.select .cmd).advance

/-- SETDAT (40 R101). -/
def execSetdat (s : State) : Host.Outcome State Fault Refusal := ifDriven s (s.select .data).advance

/-- XFER v (40 R102): the three requirements in the rule's order, then the transfer. -/
def execXfer (v : Byte) (s : State) : Host.Outcome State Fault Refusal :=
  if !s.drv then .fault .notDriven
  else if !s.dcFresh then .fault .dcNotSet
  else if s.cs ≠ some .high then .fault .selectAlreadyLow
  else .next (s.transfer v).advance

/-- CMD c (40 R104): SETCMD and XFER c as one step. The rule's pseudocode asks for `drv = 1` only; its prose and
30 R84 ("exactly") would give XFER's `SelectAlreadyLow` where `drv = 1` and select is not high. DESIGN CHOICE: the
pseudocode's one requirement, so the frame is sent there; no run meets such a state (log 28). -/
def execCmd (c : Byte) (s : State) : Host.Outcome State Fault Refusal := ifDriven s (s.sendFrame (.cmd, c)).advance

/-- DAT d (40 R105): SETDAT and XFER d as one step. DESIGN CHOICE where `drv = 1` and select is not high, as for
CMD: the frame is sent (log 28). -/
def execDat (d : Byte) (s : State) : Host.Outcome State Fault Refusal := ifDriven s (s.sendFrame (.data, d)).advance

end Sys2Proof.Machine
end

