-- ==== Sys2Proof/Machine/Handshake.lean ====
section
/-! DEFINITION. The reset pulse and the busy-line barrier: RSTW, DELAY, HARDRESET, YIELD, WAITRDY
(spec/41_reset_busy.md R120 to R130). -/

namespace Sys2Proof.Machine

/-- RSTW l (41 R120). -/
def execRstw (l : Level) (s : State) : Host.Outcome State Fault Refusal := ifDriven s (s.setRst l).advance

/-- DELAY t (41 R121): no pin changes, so no requirement on `drv`. -/
def execDelay (t : Byte) (s : State) : Host.Outcome State Fault Refusal := .next (s.hold (holdMs t)).advance

/-- HARDRESET (41 R122); a configuration with shorter holds is refused (41 R123; log 18). -/
def execHardreset (s : State) : Host.Outcome State Fault Refusal :=
  if holdsOk s.cfg then ifDriven s s.resetPulse.advance else .refused .shortResetHold

/-- YIELD (41 R124). -/
def execYield (s : State) : Host.Outcome State Fault Refusal := .next s.pause.advance

/-- WAITRDY entered: `PCNT` starts at 0 (41 R126, 10 R35). -/
def State.enterWait (s : State) : State := if s.inWait then s else { s with pcnt := 0 }

/-- The poll step (41 R125): the live line is read and recorded. -/
def State.poll (s : State) : State := State.emit [.poll s.pins.rdy] s

/-- Whether a count of consecutive busy polls has reached the bound, if there is one (41 R128). -/
def timedOut (c : Config) (n : Nat) : Bool :=
  match c.busyTimeout with
  | none => false
  | some b => decide (b ≤ n)

/-- One poll read high: the barrier is passed (41 R126). -/
def State.passBarrier (s : State) : State := { s.poll with inWait := false }.advance

/-- One poll read busy: counted (41 R126). -/
def State.countBusy (s : State) : State := { s.poll with pcnt := s.pcnt + 1, inWait := true }

/-- WAITRDY (41 R126): one iteration, one poll. A busy poll is counted; if the count has reached the
bound the operation ends with `HwNotResponding` (41 R128, 60 R225), else PPD yields and polls again at the
next step, `UPC` unchanged. -/
def execWaitrdy (s : State) : Host.Outcome State Fault Refusal :=
  if s.pins.rdy then .next s.enterWait.passBarrier
  else if timedOut s.cfg s.enterWait.countBusy.pcnt then
    match s.prog with
    | none => .fault .noOperation
    | some p => .next (s.enterWait.countBusy.abort p.op .hwNotResponding)
  else .next s.enterWait.countBusy.pause

end Sys2Proof.Machine
end

