-- ==== Sys2Proof/Machine/Pixel.lean ====
section
/-! DEFINITION. The pixel encoding converter CONV (spec/43_pixel_converter.md R160 to R166) and the colour
codes (spec/30_encoding.md R79). -/

namespace Sys2Proof.Machine

/-- The colours of 30 R79, in the order of its list. -/
inductive Colour where
  | black
  | white
  | green
  | blue
  | red
  | yellow
  | orange
  | clean
deriving DecidableEq, Repr

/-- The input code of a colour in the `Lut3` variant (30 R79). -/
def inputCode : Colour → Nibble
  | .black => 0
  | .white => 1
  | .green => 2
  | .blue => 3
  | .red => 4
  | .yellow => 5
  | .orange => 6
  | .clean => 7

/-- The native nibble of a colour (30 R79); CLEAN's is the parameter P16. -/
def nativeNibble (c : Config) : Colour → Nibble
  | .black => 0b0000
  | .white => 0b0011
  | .green => 0b0101
  | .blue => 0b0110
  | .red => 0b0100
  | .yellow => 0b0111
  | .orange => 0b1000
  | .clean => c.nibClean

/-- The lookup table `LUT`: codes above 6 are clamped to black (43 R162, R163). -/
def lut (c : Nibble) : Nibble :=
  match c.toNat with
  | 0 => 0x0
  | 1 => 0x3
  | 2 => 0x5
  | 3 => 0x6
  | 4 => 0x4
  | 5 => 0x7
  | 6 => 0x8
  | _ => 0x0

/-- The warning of one input code: itself if above 6 (43 R163). -/
def lutWarning (c : Nibble) : List Nibble := if 6 < c.toNat then [c] else []

/-- `CONV_Native4` (43 R161): the byte unchanged, never a warning. -/
def convNative4 (b : Byte) : Byte × List Nibble := (b, [])

/-- `CONV_Lut3` (43 R162): both nibbles looked up, warnings first pixel first. -/
def convLut3 (b : Byte) : Byte × List Nibble :=
  (packPixels (lut (firstPixel b)) (lut (secondPixel b)),
   lutWarning (firstPixel b) ++ lutWarning (secondPixel b))

/-- `CONV` in the configuration's encoding (43 R160). -/
def conv (e : Encoding) (b : Byte) : Byte × List Nibble :=
  match e with
  | .native4 => convNative4 b
  | .lut3 => convLut3 b

/-- One `Warn(c)` and one count of `WARN_CNT` per warning (43 R163). -/
def State.warn (ws : List Nibble) (s : State) : State :=
  State.emit (ws.map .warn) { s with warnCnt := s.warnCnt + ws.length }

end Sys2Proof.Machine
end

