-- ==== Sys2Proof/Machine/Stream.lean ====
section
/-! DEFINITION. STREAM: the frame buffer, converted, byte by byte, with a yield after every chunk
(spec/44_frame_power.md R184 to R186). -/

namespace Sys2Proof.Machine

/-- The byte at `BCNT`, converted (44 R184). -/
def streamConv (s : State) : Byte × List Nibble := conv s.cfg.encoding (s.fb.read s.bcnt)

/-- The warnings of the byte, then its data frame, then the two counts (44 R184). -/
def State.streamByte (s : State) : State :=
  let t := (s.warn (streamConv s).2).sendFrame (.data, (streamConv s).1)
  { t with bcnt := s.bcnt + 1, ccnt := s.ccnt + 1 }

/-- The end of a chunk, at `CHUNK_BYTES` or at the last byte of the frame: a yield, `CCNT` cleared
(44 R184). -/
def State.endChunk (s : State) : State :=
  if s.ccnt = chunkBytes s.cfg ∨ s.bcnt = frameBytes s.cfg then { s.pause with ccnt := 0 } else s

/-- The end of the stream: on to the next micro-operation (44 R184). -/
def State.endStream (s : State) : State := if s.bcnt = frameBytes s.cfg then s.advance else s

/-- STREAM (44 R184): one step sends one byte. With no byte left on entry the step only moves on
(44 R184 (d); log 14). The byte goes out as DAT sends it, whatever level select has (log 28). -/
def execStream (s : State) : Host.Outcome State Fault Refusal :=
  if s.prog ≠ some .display then .fault .streamOutsideDisplay
  else if frameBytes s.cfg ≤ s.bcnt then .next s.advance
  else ifDriven s s.streamByte.endChunk.endStream

end Sys2Proof.Machine
end

