-- ==== Sys2Proof/Machine/HostOps.lean ====
section
/-! DEFINITION. The admission of the host operations: INITIALIZE (spec/42_init_sequence.md R140, R141),
DISPLAYFRAME (spec/44_frame_power.md R180), SLEEP (44 R191) and the reserved code
(spec/60_exceptions.md R226); dispatch 44 R199. A request that cannot be taken has no effect (60 R229). -/

namespace Sys2Proof.Machine

/-- A request is taken only when the block is ready for one (44 R199); otherwise nothing happens
(60 R229). -/
def ifTaken (s : State) (r : Host.Outcome State Fault Refusal) : Host.Outcome State Fault Refusal :=
  if s.reqReady then r else .next s

/-- Reading `MODE` to admit DISPLAYFRAME or SLEEP: admitted only in `Ready` (60 R235); the reserved code
is `fault BadMode` (10 R28). -/
def ifReady (op : HostOp) (s : State) (r : Host.Outcome State Fault Refusal) : Host.Outcome State Fault Refusal :=
  match s.mode with
  | .ready => r
  | .unconfigured | .asleep => .next (s.reject op .notConfigured)
  | .reserved => .fault .badMode

/-- HOSTOP_RESERVED (60 R226, 44 R199). -/
def execHostopReserved (s : State) : Host.Outcome State Fault Refusal :=
  ifTaken s (.next (s.reject .reserved .badOp))

/-- The admitting step of INITIALIZE (42 R140, R141): `MODE` falls to `Unconfigured` first, then the draw
`cfg_ok` decides. -/
def State.beginInit (s : State) : State :=
  let t := { s with mode := .unconfigured }
  if s.pins.cfgOk then t.configureBus.beginProgram .init
  else t.abort .initializeOp .setupFailure

/-- INITIALIZE (42 R140): admitted in every mode. -/
def execInitialize (s : State) : Host.Outcome State Fault Refusal := ifTaken s (.next s.beginInit)

/-- The admitting step of DISPLAYFRAME (44 R180): `LEN`, the counters, the buffer taken for the whole
operation (10 R37; log 6). -/
def State.beginDisplay (s : State) : State :=
  { s with len := s.pins.reqLen.toNat, bcnt := 0, ccnt := 0, warnCnt := 0, fb := s.pins.fb }.beginProgram .display

/-- DISPLAYFRAME (44 R180): the mode is looked at first, then the length (60 R229). -/
def execDisplayframe (s : State) : Host.Outcome State Fault Refusal :=
  ifTaken s (ifReady .displayframe s
    (.next (if s.pins.reqLen.toNat = frameBytes s.cfg then s.beginDisplay
      else s.reject .displayframe .badLength)))

/-- SLEEP (44 R191). -/
def execSleep (s : State) : Host.Outcome State Fault Refusal :=
  ifTaken s (ifReady .sleep s (.next (s.beginProgram .sleep)))

end Sys2Proof.Machine
end

