-- ==== Sys2Proof/Machine/Sequencer.lean ====
section
/-! DEFINITION. The bookkeeping micro-operations END and PHASE (spec/42_init_sequence.md R147, R148) and
the reserved kinds (spec/30_encoding.md R81 (b)). -/

namespace Sys2Proof.Machine

/-- `MODE` after a micro-program has reached END (42 R147). -/
def modeAfter (p : Prog) (m : Mode) : Mode :=
  match p with
  | .init => .ready
  | .display => m
  | .sleep => .asleep

/-- END (42 R147). Without a running operation there is nothing to end (log 15). -/
def execEndOp (s : State) : Host.Outcome State Fault Refusal :=
  match s.prog with
  | none => .fault .noOperation
  | some p => .next { (s.finish p.op .ok) with mode := modeAfter p s.mode }

/-- PHASE p (42 R148): a code above 8 is `fault IllegalUop`. -/
def execPhase (p : Nibble) (s : State) : Host.Outcome State Fault Refusal :=
  match phaseOfCode p with
  | none => .fault .illegalUop
  | some q => .next { s with phase := q }.advance

/-- Reserved kind 0xD: not a micro-operation (30 R81 (b)). -/
def execUopReservedD (_imm : Byte) (_s : State) : Host.Outcome State Fault Refusal := .fault .illegalUop

/-- Reserved kind 0xE: not a micro-operation (30 R81 (b)). -/
def execUopReservedE (_imm : Byte) (_s : State) : Host.Outcome State Fault Refusal := .fault .illegalUop

/-- Reserved kind 0xF: not a micro-operation (30 R81 (b)). -/
def execUopReservedF (_imm : Byte) (_s : State) : Host.Outcome State Fault Refusal := .fault .illegalUop

end Sys2Proof.Machine
end

