-- ==== Sys2Proof/Machine/Wire.lean ====
section
/-! DEFINITION. The wire rows of the opcode table (spec/30_encoding.md R71, R77, R78, R80;
spec/44_frame_power.md R183, R187 to R191): what putting each one's frames on the pins does. They are the
pin level of CMD, DAT and STREAM (00 R9): no word of the micro-program space holds one and `UPC` is not
concerned (log 16). -/

namespace Sys2Proof.Machine

/-- Frames on the pins, for a driven bus (30 R71, 40 R109), whatever level select has (log 28). -/
def sendOnWire (fs : List Frame) (s : State) : Host.Outcome State Fault Refusal := ifDriven s (s.sendFrames fs)

/-- WIRE_CMD: any command frame (30 R71). -/
def execWireCmd (v : Byte) (s : State) : Host.Outcome State Fault Refusal :=
  sendOnWire ((Instr.wireCmd v).frames s.cfg) s

/-- WIRE_DATA: any data frame (30 R71). -/
def execWireData (v : Byte) (s : State) : Host.Outcome State Fault Refusal :=
  sendOnWire ((Instr.wireData v).frames s.cfg) s

/-- FRAME_START (44 R183). -/
def execFrameStart (s : State) : Host.Outcome State Fault Refusal := sendOnWire (Instr.frameStart.frames s.cfg) s

/-- POWER_ON (44 R187). -/
def execPowerOn (s : State) : Host.Outcome State Fault Refusal := sendOnWire (Instr.powerOn.frames s.cfg) s

/-- REFRESH (44 R188): the command and exactly one data byte. -/
def execRefresh (s : State) : Host.Outcome State Fault Refusal := sendOnWire (Instr.refresh.frames s.cfg) s

/-- POWER_OFF (44 R189): the command and exactly one data byte. -/
def execPowerOff (s : State) : Host.Outcome State Fault Refusal := sendOnWire (Instr.powerOff.frames s.cfg) s

/-- DEEP_SLEEP (44 R191): the command and the payload. -/
def execDeepSleep (s : State) : Host.Outcome State Fault Refusal := sendOnWire (Instr.deepSleep.frames s.cfg) s

/-- INIT_ENTRY (30 R78, 42 R143): the command and its data bytes in order. -/
def execInitEntry (c : Byte) (ds : List Byte) (s : State) : Host.Outcome State Fault Refusal :=
  sendOnWire ((Instr.initEntry c ds).frames s.cfg) s

/-- PIXEL_DATA: one packed pixel byte (30 R80). -/
def execPixelData (p0 p1 : Nibble) (s : State) : Host.Outcome State Fault Refusal :=
  sendOnWire ((Instr.pixelData p0 p1).frames s.cfg) s

end Sys2Proof.Machine
end

