-- ==== Sys2Proof/Machine/Dispatch.lean ====
section
/-! DEFINITION. The dispatch of an instruction to its meaning, one arm per row of spec/opcode_table.json. -/

namespace Sys2Proof.Machine

def exec (i : Instr) (s : State) : Host.Outcome State Fault Refusal :=
  match i with
  | .hostopReserved => Sys2Proof.Machine.execHostopReserved s
  | .initializeOp => Sys2Proof.Machine.execInitialize s
  | .displayframe => Sys2Proof.Machine.execDisplayframe s
  | .sleep => Sys2Proof.Machine.execSleep s
  | .endOp => Sys2Proof.Machine.execEndOp s
  | .setcmd => Sys2Proof.Machine.execSetcmd s
  | .setdat => Sys2Proof.Machine.execSetdat s
  | .xfer v => Sys2Proof.Machine.execXfer v s
  | .cmd c => Sys2Proof.Machine.execCmd c s
  | .dat d => Sys2Proof.Machine.execDat d s
  | .rstw l => Sys2Proof.Machine.execRstw l s
  | .delay t => Sys2Proof.Machine.execDelay t s
  | .waitrdy => Sys2Proof.Machine.execWaitrdy s
  | .yield => Sys2Proof.Machine.execYield s
  | .hardreset => Sys2Proof.Machine.execHardreset s
  | .stream => Sys2Proof.Machine.execStream s
  | .phase p => Sys2Proof.Machine.execPhase p s
  | .uopReservedD imm => Sys2Proof.Machine.execUopReservedD imm s
  | .uopReservedE imm => Sys2Proof.Machine.execUopReservedE imm s
  | .uopReservedF imm => Sys2Proof.Machine.execUopReservedF imm s
  | .wireCmd v => Sys2Proof.Machine.execWireCmd v s
  | .wireData v => Sys2Proof.Machine.execWireData v s
  | .frameStart => Sys2Proof.Machine.execFrameStart s
  | .powerOn => Sys2Proof.Machine.execPowerOn s
  | .refresh => Sys2Proof.Machine.execRefresh s
  | .powerOff => Sys2Proof.Machine.execPowerOff s
  | .deepSleep => Sys2Proof.Machine.execDeepSleep s
  | .initEntry c ds => Sys2Proof.Machine.execInitEntry c ds s
  | .pixelData p0 p1 => Sys2Proof.Machine.execPixelData p0 p1 s

end Sys2Proof.Machine
end

