-- ==== Sys2Proof/Machine/Fetch.lean ====
section
/-! DEFINITION. What one step does around an instruction: the sampled inputs, the fetch of the next
micro-operation (spec/42_init_sequence.md R150), the dispatch of a request (spec/44_frame_power.md R199),
and the placing of a word where the next step fetches it. -/

namespace Sys2Proof.Machine

/-- New levels on the input lines for the next step, each a free value of the environment (10 R25, R41;
log 4). The buffer behind the read port is taken in canonical form (log 5). -/
def freePins (k : Nat) : Pins where
  rst := Config.freeRst k
  reqValid := Config.freeReqValid k
  reqOp := Config.freeReqOp k
  reqLen := Config.freeReqLen k
  fb := Memory.ofCells (Config.freeFb k)
  cfgOk := Config.freeCfgOk k
  rdy := Config.freeRdy k

/-- The end of a step: the input lines are drawn anew. -/
def State.sample (s : State) : State := { s with pins := freePins s.draws, draws := s.draws + 1 }

/-- Draws the input lines after a next state; a stop stays a stop. -/
def thenSample : Host.Outcome State Fault Refusal → Host.Outcome State Fault Refusal
  | .next s => .next s.sample
  | .fault r => .fault r
  | .refused r => .refused r

/-- `ROM(PROG)[UPC]` (10 R32). -/
def fetchWord (p : Prog) (s : State) : Option UopWord := (s.rom.words p)[s.upc]?

/-- Runs the word at `UPC` of a running micro-program (42 R150). -/
def runUop (p : Prog) (s : State) : Host.Outcome State Fault Refusal :=
  match fetchWord p s with
  | none => .fault .upcPastEnd
  | some w =>
    match decodeUop w with
    | .error _ => .fault .illegalUop
    | .ok i => exec i s

/-- Takes the request on the port, if there is one (44 R199). With none the block does nothing
(70 R260; log 19). -/
def runRequest (s : State) : Host.Outcome State Fault Refusal :=
  if s.pins.reqValid then exec (decodeHostop s.pins.reqOp) s else .next s

/-- One sequencer step or one host step, on the inputs sampled (42 R150). -/
def runOnce (s : State) : Host.Outcome State Fault Refusal :=
  match s.prog with
  | some p => runUop p s
  | none => runRequest s

/-- One step on the inputs sampled: block reset wins over everything (60 R229, 70 R261). -/
def stepOnce (s : State) : Host.Outcome State Fault Refusal :=
  thenSample (if s.pins.rst then .next s.blockReset else runOnce s)

/-! ### Placing an instruction for the next step (log 17) -/

/-- A list with `w` at index `n`; words missing before it are END words. -/
def placeAt (w : UopWord) : Nat → List UopWord → List UopWord
  | 0, [] => [w]
  | 0, _ :: ws => w :: ws
  | n + 1, [] => 0x000 :: placeAt w n []
  | n + 1, v :: ws => v :: placeAt w n ws

/-- The state with a micro-operation word at `UPC` of the running micro-program, of `ROM(Display)` where
none runs, and no block reset at the next step. -/
def State.placeUop (w : UopWord) (s : State) : State :=
  let p := s.prog.getD .display
  { s with
    prog := some p
    rom := s.rom.setWords p (placeAt w s.upc (s.rom.words p))
    pins := { s.pins with rst := false } }

/-- The state with a request on the port of an idle block, and no block reset at the next step. -/
def State.placeRequest (w : HostWord) (s : State) : State :=
  { s with
    prog := none
    phase := .idle
    pins := { s.pins with rst := false, reqValid := true, reqOp := w } }

/-- The micro-operation that puts a wire frame on the pins: CMD or DAT (40 R104, R105). -/
def uopOfFrame (f : Frame) : UopWord :=
  match f with
  | (.cmd, v) => romCmd v
  | (.data, v) => romDat v

/-- Places an instruction of the opcode table by its format. -/
def State.placeTableWord (s : State) (nbits w : Nat) : State :=
  match tableFormat nbits w with
  | .hostop => s.placeRequest (BitVec.ofNat 2 w)
  | .uop => s.placeUop (BitVec.ofNat 12 w)
  | .wire => s.placeUop (uopOfFrame (wordFrame (BitVec.ofNat 9 w)))

end Sys2Proof.Machine
end

