-- ==== Sys2Proof/Machine/Step.lean ====
section
/-! DEFINITION. One step of the machine (spec/42_init_sequence.md R150): three outcomes, next, fault,
refused. -/

namespace Sys2Proof.Machine

/-- One step: `stepOnce` of Machine/Fetch.lean. -/
def step (s : State) : Host.Outcome State Fault Refusal := stepOnce s

/-- The state with an instruction of the opcode table stored where `step` fetches its next one (log 17). -/
def State.withFetchWord (s : State) (nbits w : Nat) : State := s.placeTableWord nbits w

end Sys2Proof.Machine
end

