-- ==== Sys2Proof/Machine/Asm.lean ====
section
/-! DEFINITION. The written form of the micro-operations and host operations (spec/30_encoding.md R83). -/

namespace Sys2Proof.Machine

/-- A hexadecimal digit. -/
def hexDigit (n : Nibble) : String :=
  match n.toNat with
  | 0 => "0" | 1 => "1" | 2 => "2" | 3 => "3" | 4 => "4" | 5 => "5" | 6 => "6" | 7 => "7"
  | 8 => "8" | 9 => "9" | 10 => "A" | 11 => "B" | 12 => "C" | 13 => "D" | 14 => "E" | _ => "F"

/-- A byte in hex, as in `CMD 0xD1`. -/
def hexByte (b : Byte) : String := "0x" ++ hexDigit (firstPixel b) ++ hexDigit (secondPixel b)

/-- The name of a phase (10 R29). -/
def phaseName : Phase → String
  | .idle => "Idle"
  | .transmitting => "Transmitting"
  | .poweringOn => "PoweringOn"
  | .refreshing => "Refreshing"
  | .poweringOff => "PoweringOff"
  | .resetting => "Resetting"
  | .initWait => "InitWait"
  | .initReplay => "InitReplay"
  | .sleeping => "Sleeping"

/-- A level as `H` or `L`. -/
def levelName : Level → String
  | .low => "L"
  | .high => "H"

/-- The written form of a micro-operation or a host operation; `none` for rows the syntax of 30 R83 has
no form for. -/
def asm : Instr → Option String
  | .initializeOp => some "INITIALIZE"
  | .displayframe => some "DISPLAYFRAME"
  | .sleep => some "SLEEP"
  | .endOp => some "END"
  | .setcmd => some "SETCMD"
  | .setdat => some "SETDAT"
  | .xfer v => some ("XFER " ++ hexByte v)
  | .cmd c => some ("CMD " ++ hexByte c)
  | .dat d => some ("DAT " ++ hexByte d)
  | .rstw l => some ("RSTW " ++ levelName l)
  | .delay t => some ("DELAY " ++ toString (holdMs t))
  | .waitrdy => some "WAITRDY"
  | .yield => some "YIELD"
  | .hardreset => some "HARDRESET"
  | .stream => some "STREAM"
  | .phase p => (phaseOfCode p).map (fun q => "PHASE " ++ phaseName q)
  | .hostopReserved | .uopReservedD _ | .uopReservedE _ | .uopReservedF _ | .wireCmd _ | .wireData _
  | .frameStart | .powerOn | .refresh | .powerOff | .deepSleep | .initEntry _ _ | .pixelData _ _ => none

end Sys2Proof.Machine
end

