-- ==== Sys2Proof/Machine/Port.lean ====
section
/-! DEFINITION. The outputs of the host port (spec/10_state.md R41; spec/60_exceptions.md R237, R238), as
functions of the state and, for the strobes, of the events of one step. -/

namespace Sys2Proof.Machine

/-- `rsp_status` (10 R41): the code of `STATUS`. -/
def rspStatus (s : State) : BitVec 3 := statusCode s.status

/-- `mode_o` (10 R41). -/
def modeOut (s : State) : BitVec 2 := modeCode s.mode

/-- `phase_o` (10 R41). -/
def phaseOut (s : State) : Nibble := phaseCode s.phase

/-- `fb_addr` (10 R41): `BCNT`. -/
def fbAddr (s : State) : BitVec 18 := BitVec.ofNat 18 s.bcnt

/-- The events a step appended: the trace only grows (10 R39). After a block reset the trace restarts. -/
def stepEvents (s t : State) : List Event := t.trace.drop s.trace.length

/-- `rsp_valid` (10 R41): pulses when an operation ends. -/
def rspValid (s t : State) : Bool :=
  (stepEvents s t).any (fun e => match e with | .done _ _ => true | _ => false)

/-- `warn_code` values of a step, one per pulse of `warn_valid` (10 R41, 43 R163). -/
def warnCodes (s t : State) : List Nibble :=
  (stepEvents s t).filterMap (fun e => match e with | .warn c => some c | _ => none)

/-- `warn_valid` (10 R41): one pulse per decode warning. -/
def warnPulses (s t : State) : Nat := (warnCodes s t).length

/-- `yield_o` (10 R41): high while PPD is in a yield interval of the step. -/
def yieldOut (s t : State) : Bool := (stepEvents s t).any Event.isYield

/-- `fb_rd` (10 R41, 20 R51): the read strobe, in a step that sends a pixel byte. -/
def fbRead (s t : State) : Bool := decide (t.bcnt = s.bcnt + 1)

end Sys2Proof.Machine
end

