-- ==== Sys2Proof/Safety.lean ====
section
/-! DEFINITION. The terms claims are made in: runs on given inputs, the lists of events a rule names, and
the invariants of the machine. -/

namespace Sys2Proof.Machine

/-! ### Runs on given inputs -/

/-- One step on the given input lines. -/
def stepWith (p : Pins) (s : State) : Host.Outcome State Fault Refusal := step { s with pins := p }

/-- A run of one step per element, on the given input lines (the draws of 10 R42). -/
def runWith : List Pins → State → Host.Outcome State Fault Refusal
  | [], s => .next s
  | p :: ps, s =>
    match stepWith p s with
    | .next t => runWith ps t
    | .fault r => .fault r
    | .refused r => .refused r

/-- Instructions one after another on the same input lines. -/
def execList : List Instr → State → Host.Outcome State Fault Refusal
  | [], s => .next s
  | i :: is, s =>
    match exec i s with
    | .next t => execList is t
    | .fault r => .fault r
    | .refused r => .refused r

/-- No block reset at any of the steps. -/
def noReset (ps : List Pins) : Prop := ∀ p ∈ ps, p.rst = false

/-- The ready line reads busy at every one of the steps. -/
def allBusy (ps : List Pins) : Prop := ∀ p ∈ ps, p.rdy = false

/-- A wait of `n` busy polls is below the bound, if there is one (41 R128). -/
def belowBound (c : Config) (n : Nat) : Prop := ∀ b, c.busyTimeout = some b → n < b

/-! ### Lists of events -/

/-- The events of one wire frame, `F(m, v)` (40 R104, R105). -/
def frameEvents (f : Frame) : List Event := [.dcW f.1, .csW .low, .byte f.2, .csW .high]

/-- The events of frames in order. -/
def framesEvents (fs : List Frame) : List Event := fs.flatMap frameEvents

/-- The events of the reset pulse (41 R122). -/
def pulseEvents (c : Config) : List Event :=
  [.rstW .high, .wait c.tRstHi1, .rstW .low, .wait c.tRstLo, .rstW .high, .wait c.tRstHi2]

/-- A completed barrier after `n` busy polls: `[Poll(0), Yield]` n times, then `Poll(1)` (41 R126). -/
def barrierEvents : Nat → List Event
  | 0 => [.poll true]
  | n + 1 => .poll false :: .yield :: barrierEvents n

/-- `n` busy polls (41 R127). -/
def busyEvents : Nat → List Event
  | 0 => []
  | n + 1 => .poll false :: .yield :: busyEvents n

/-- The pixel frames of a buffer, offset by offset (44 R186, R190). -/
def pixelFrames (c : Config) (fb : Memory) : List Frame :=
  (List.range (frameBytes c)).map (fun a => (.data, (conv c.encoding (fb.read a)).1))

/-- The frames of the init table, entry by entry (42 R143). -/
def tableFrames (c : Config) : List Frame := c.initTable.flatMap (fun e => messageFrames e.1 e.2)

/-- The frame trace of a whole DISPLAYFRAME (44 R190). -/
def displayFrames (c : Config) (fb : Memory) : List Frame :=
  [(.cmd, c.cmdFrameStart)] ++ pixelFrames c fb ++
    [(.cmd, c.cmdPowerOn), (.cmd, c.cmdRefresh), (.data, c.argRefresh), (.cmd, c.cmdPowerOff), (.data, c.argPowerOff)]

/-- The events of the step that sends the byte at an offset: warnings, frame, and a yield at the end of a chunk
or of the frame (43 R163, 44 R184). -/
def streamByteEvents (c : Config) (fb : Memory) (a : Nat) : List Event :=
  (conv c.encoding (fb.read a)).2.map .warn ++ frameEvents (.data, (conv c.encoding (fb.read a)).1) ++
    (if (a + 1) % chunkBytes c = 0 ∨ a + 1 = frameBytes c then [.yield] else [])

/-- The events of the whole stream (44 R184). -/
def streamEvents (c : Config) (fb : Memory) : List Event :=
  (List.range (frameBytes c)).flatMap (streamByteEvents c fb)

/-- The events of a whole DISPLAYFRAME, with the numbers of busy polls at its three barriers (44 R182, R190). -/
def displayEvents (c : Config) (fb : Memory) (n1 n2 n3 : Nat) : List Event :=
  frameEvents (.cmd, c.cmdFrameStart) ++ streamEvents c fb ++
    frameEvents (.cmd, c.cmdPowerOn) ++ barrierEvents n1 ++
    frameEvents (.cmd, c.cmdRefresh) ++ frameEvents (.data, c.argRefresh) ++ barrierEvents n2 ++
    frameEvents (.cmd, c.cmdPowerOff) ++ frameEvents (.data, c.argPowerOff) ++ barrierEvents n3 ++
    [.done .displayframe .ok]

/-! ### Invariants -/

/-- The trace so far is well framed (00 R11, 40 R106), no window is open, and `dc_fresh` says what the
trace says: whether the discriminator was written since the last byte (10 R33). -/
def Framed (s : State) : Prop :=
  Scan.start.events s.trace = some { inWindow := false, sent := false, fresh := s.dcFresh }

/-- The mode in which a micro-program runs (60 R236). -/
def modeOfProg : Prog → Mode
  | .init => .unconfigured
  | .display => .ready
  | .sleep => .ready

/-- The invariant of the sequencer, for a configuration whose holds the panel accepts: what the rules
derive of every run from block reset (10 R27, R29, R32, 40 R106 (b), R109, 42 R149, 60 R227, R236). -/
structure Consistent (s : State) : Prop where
  /-- The micro-programs are those of the configuration (20 R53). -/
  romFixed : s.rom = Rom.ofConfig s.cfg
  /-- The holds are not shorter than the panel requires (41 R123). -/
  holds : holdsOk s.cfg = true
  /-- `MODE` is never its reserved code (10 R28). -/
  modeLegal : s.mode ≠ .reserved
  /-- While `drv = 0` the lines are undriven and nothing runs (10 R27, 40 R109). -/
  undriven : s.drv = false → s.cs = none ∧ s.dc = none ∧ s.rst = none ∧ s.mode = .unconfigured ∧ s.prog = none
  /-- While `drv = 1` select is high between steps (40 R106 (b)). -/
  selectHigh : s.drv = true → s.cs = some .high
  /-- Between byte transfers no discriminator write is pending (10 R33: only CMD and DAT are used). -/
  notFresh : s.dcFresh = false
  /-- With no operation the sequencer is idle and holds no buffer (10 R32, R37, R42). -/
  idle : s.prog = none → s.phase = .idle ∧ s.upc = 0 ∧ s.fb = [] ∧ s.inWait = false
  /-- A running operation has its next word in its micro-program (10 R32), in the mode 60 R236 gives it, and
  shows a phase (10 R29). -/
  running : ∀ p, s.prog = some p →
    s.upc < (s.rom.words p).length ∧ s.mode = modeOfProg p ∧ s.phase ≠ .idle

/-- The frame buffers are in canonical form (log 5). -/
def MemoryCanonical (s : State) : Prop := s.fb.wf = true ∧ s.pins.fb.wf = true

/-- The counters are within the ranges of 10 R31 and R34. -/
def CountersInRange (s : State) : Prop :=
  s.bcnt ≤ frameBytes s.cfg ∧ s.ccnt < chunkBytes s.cfg ∧ s.ccnt ≤ s.bcnt ∧ s.warnCnt ≤ 2 * s.bcnt

/-- Frames have gone only to a configured panel (70 R268): the trace has no byte outside a session, and the
session is open exactly while an INITIALIZE runs or `MODE` is `Ready` (60 R235, R236). -/
def SessionKept (s : State) : Prop :=
  sessionEvents false s.trace = some (decide (s.mode = .ready) || decide (s.prog = some .init))

/-! ### Comparing states -/

/-- The state with other ghost state (10 R39). -/
def State.withGhost (tr : List Event) (t : Rat) (s : State) : State := { s with trace := tr, now := t }

/-- The configuration with other values for the parameters that no rule may read (00 R7: P7, P8, P9, P10,
P12, P15), and for P16, which no rule reads either. -/
def Config.withOpen (o c : Config) : Config :=
  { c with
    spiHz := o.spiHz, spiMode := o.spiMode, dcLevelCmd := o.dcLevelCmd, pinMap := o.pinMap,
    tPoll := o.tPoll, tYield := o.tYield, clkHz := o.clkHz, nibClean := o.nibClean }

/-- The state with those values in its configuration. -/
def State.withOpen (o : Config) (s : State) : State := { s with cfg := Config.withOpen o s.cfg }

/-- Applies a function to a next state; a stop stays the same stop. -/
def mapNext (f : State → State) : Host.Outcome State Fault Refusal → Host.Outcome State Fault Refusal
  | .next s => .next (f s)
  | .fault r => .fault r
  | .refused r => .refused r

end Sys2Proof.Machine
end

