-- ==== Sys2Proof/Certificates/Slice0/Obligations.lean ====
section
/-! DEFINITION. The statements for the provers, from the numbered rules of spec/. Each docstring names the
rule it formalises. A result is stated as the whole next state: `t = { s with … }` says that every field not
named is unchanged, which is the instruction's frame. Where a field has a free value (an interval of time),
the statement says what bounds it and takes the value from `t`. -/

open Sys2Proof Sys2Proof.Machine

/-! ### Reset and the step -/

/-- 10 R40: the state after block reset. Only the values the spec gives; nothing is said of `SH`, `BC`, `TMR`. -/
def Obligations.ResetLeavesTheListedValues : Prop :=
  State.reset.drv = false ∧ State.reset.cs = none ∧ State.reset.dc = none ∧ State.reset.rst = none ∧
  State.reset.ser.sck = none ∧ State.reset.ser.mosi = none ∧ State.reset.mode = .unconfigured ∧
  State.reset.phase = .idle ∧ State.reset.status = .none ∧ State.reset.warnCnt = 0 ∧
  State.reset.prog = none ∧ State.reset.upc = 0 ∧ State.reset.dcFresh = false ∧ State.reset.bcnt = 0 ∧
  State.reset.ccnt = 0 ∧ State.reset.pcnt = 0 ∧ State.reset.len = 0 ∧ State.reset.trace = [] ∧ State.reset.now = 0

/-- 70 R261: `rst` between any two steps, in whatever state, gives the reset values, restarts the trace and
leaves the configuration and the micro-programs; it wins over a running operation and over a request. -/
def Obligations.BlockResetWinsInEveryState : Prop :=
  ∀ s : State, s.pins.rst = true → ∃ t, step s = .next t ∧
    t.cfg = s.cfg ∧ t.rom = s.rom ∧
    t.drv = false ∧ t.cs = none ∧ t.dc = none ∧ t.rst = none ∧ t.ser.sck = none ∧ t.ser.mosi = none ∧
    t.mode = .unconfigured ∧ t.phase = .idle ∧ t.status = .none ∧ t.warnCnt = 0 ∧ t.prog = none ∧
    t.upc = 0 ∧ t.dcFresh = false ∧ t.bcnt = 0 ∧ t.ccnt = 0 ∧ t.pcnt = 0 ∧ t.len = 0 ∧ t.fb = [] ∧
    t.trace = [] ∧ t.now = 0

/-- 42 R150, 44 R199: a step runs the micro-operation at `ROM(PROG)[UPC]`, or the request on the port, on the
inputs sampled; around it the step only draws the input lines anew (`thenSample`). With no program and no
request it does nothing else (70 R260). -/
def Obligations.StepRunsTheDecodedInstruction : Prop :=
  (∀ (s : State) (p : Prog) (w : UopWord) (i : Instr), s.pins.rst = false → s.prog = some p →
    (s.rom.words p)[s.upc]? = some w → decodeUop w = .ok i → step s = thenSample (exec i s)) ∧
  (∀ s : State, s.pins.rst = false → s.prog = none → s.pins.reqValid = true →
    step s = thenSample (exec (decodeHostop s.pins.reqOp) s)) ∧
  (∀ s : State, s.pins.rst = false → s.prog = none → s.pins.reqValid = false → step s = .next s.sample)

/-- 30 R81 (b): a word that is no micro-operation stops the machine with `fault IllegalUop`, whether the
decoder rejects it or it has a reserved kind; so does PHASE with a code above 8 (42 R148). -/
def Obligations.IllegalWordsStopTheMachine : Prop :=
  (∀ (s : State) (p : Prog) (w : UopWord), s.pins.rst = false → s.prog = some p →
    (s.rom.words p)[s.upc]? = some w → isUop w = false → step s = .fault .illegalUop) ∧
  (∀ (s : State) (imm : Byte), exec (.uopReservedD imm) s = .fault .illegalUop ∧
    exec (.uopReservedE imm) s = .fault .illegalUop ∧ exec (.uopReservedF imm) s = .fault .illegalUop) ∧
  (∀ (s : State) (p : Nibble), 8 < p.toNat → exec (.phase p) s = .fault .illegalUop)

/-! ### Encodings -/

/-- Decode and encode agree: every instruction of every configuration is read back from its own words, in
the sequencer state in which it is sent (for a wire row with a name) or without context. -/
def Obligations.DecodeOfEncodeIsTheInstruction : Prop :=
  ∀ (c : Config) (i : Instr), i.wellFormed c = true → decode c i.context (encode c i) = .ok i

/-- The other direction for the fetched format: a word that decodes is the word of what it decodes to, so no
two words mean the same micro-operation. -/
def Obligations.EncodeOfDecodedWordIsTheWord : Prop :=
  ∀ (w : UopWord) (i : Instr), decodeUop w = .ok i → ∀ c : Config, encode c i = .uop w

/-- 30 R75, R81 (b): exactly the words with a non-zero must-be-zero field, or a PHASE code above 8, are
rejected by the decoder. -/
def Obligations.RejectedWordsAreTheReservedOnes : Prop :=
  ∀ w : UopWord, (∃ e, decodeUop w = .error e) ↔
    ((uopKind w ∈ ([0x0, 0x1, 0x2, 0x8, 0x9, 0xA, 0xB] : List Nibble) ∧ uopImm w ≠ 0) ∨
     (uopKind w = 0x6 ∧ 1 < (uopImm w).toNat) ∨ (uopKind w = 0xC ∧ 8 < (uopImm w).toNat))

/-- 30 R85: the word is `kind * 256 + imm`, with the rule's twelve examples, both ways. -/
def Obligations.WordArithmeticAndExamples : Prop :=
  (∀ (k : Nibble) (v : Byte), (uopWord k v).toNat = k.toNat * 256 + v.toNat) ∧
  (∀ c : Config, encode c (.cmd 0xD1) = .uop 0x4D1 ∧ encode c (.dat 0x5A) = .uop 0x55A ∧
    encode c (.rstw .high) = .uop 0x601 ∧ encode c (.rstw .low) = .uop 0x600 ∧
    encode c (.delay 20) = .uop 0x714 ∧ encode c (.delay 1) = .uop 0x701 ∧ encode c .waitrdy = .uop 0x800 ∧
    encode c .yield = .uop 0x900 ∧ encode c .hardreset = .uop 0xA00 ∧ encode c .stream = .uop 0xB00 ∧
    encode c (.phase (phaseCode .transmitting)) = .uop 0xC01 ∧ encode c .endOp = .uop 0x000) ∧
  (decodeUop 0x4D1 = .ok (.cmd 0xD1) ∧ decodeUop 0x55A = .ok (.dat 0x5A) ∧ decodeUop 0x601 = .ok (.rstw .high) ∧
    decodeUop 0x600 = .ok (.rstw .low) ∧ decodeUop 0x714 = .ok (.delay 20) ∧ decodeUop 0x701 = .ok (.delay 1) ∧
    decodeUop 0x800 = .ok .waitrdy ∧ decodeUop 0x900 = .ok .yield ∧ decodeUop 0xA00 = .ok .hardreset ∧
    decodeUop 0xB00 = .ok .stream ∧ decodeUop 0xC01 = .ok (.phase 1) ∧ decodeUop 0x000 = .ok .endOp)

/-- 30 R73, 10 R28, R29, R30: the request codes, and the numbers of the register codes; a phase code is read
back, a reserved one is none. -/
def Obligations.CodesOfRequestsAndRegisters : Prop :=
  (decodeHostop 0b00 = .hostopReserved ∧ decodeHostop 0b01 = .initializeOp ∧
    decodeHostop 0b10 = .displayframe ∧ decodeHostop 0b11 = .sleep) ∧
  ([Mode.unconfigured, .ready, .asleep, .reserved].map modeCode = [0, 1, 2, 3]) ∧
  ([Phase.idle, .transmitting, .poweringOn, .refreshing, .poweringOff, .resetting, .initWait, .initReplay,
    .sleeping].map phaseCode = [0, 1, 2, 3, 4, 5, 6, 7, 8]) ∧
  (∀ p : Phase, phaseOfCode (phaseCode p) = some p) ∧
  (∀ n : Nibble, 8 < n.toNat → phaseOfCode n = none) ∧
  ([Status.none, .ok, .setupFailure, .notConfigured, .badLength, .hwNotResponding, .badOp].map statusCode =
    [0, 1, 2, 3, 4, 5, 6])

/-! ### Micro-programs -/

/-- 42 R142: what `ROM(Init)` decodes to, and its length, for every init table. -/
def Obligations.InitProgramReplaysTheTable : Prop :=
  ∀ c : Config,
    (romInit c).map decodeUop =
      (([.phase (phaseCode .resetting), .hardreset, .phase (phaseCode .initWait), .waitrdy,
        .phase (phaseCode .initReplay)] ++ c.initTable.flatMap (fun e => writeExpansion e.1 e.2) ++
        [.endOp] : List Instr)).map .ok ∧
    (romInit c).length = 6 + (c.initTable.map (fun e => 1 + e.2.length)).sum

/-- 44 R182: what `ROM(Display)` decodes to: 15 words. -/
def Obligations.DisplayProgramContents : Prop :=
  ∀ c : Config,
    (romDisplay c).map decodeUop =
      ([.phase (phaseCode .transmitting), .cmd c.cmdFrameStart, .stream,
       .phase (phaseCode .poweringOn), .cmd c.cmdPowerOn, .waitrdy,
       .phase (phaseCode .refreshing), .cmd c.cmdRefresh, .dat c.argRefresh, .waitrdy,
       .phase (phaseCode .poweringOff), .cmd c.cmdPowerOff, .dat c.argPowerOff, .waitrdy,
       .endOp] : List Instr).map .ok ∧
    (romDisplay c).length = 15

/-- 42 R149: the three micro-programs are well formed for every value of the parameters. -/
def Obligations.MicroProgramsAreWellFormed : Prop :=
  ∀ c : Config, wellFormedProgram (romInit c) = true ∧ wellFormedProgram (romDisplay c) = true ∧
    wellFormedProgram (romSleep c) = true

/-- 30 R82: the receiver tells where a message ends by the mode of the next frame, so the frames of any list
of messages determine the messages. -/
def Obligations.MessagesAreRecoverableFromFrames : Prop :=
  ∀ ms : List (Byte × List Byte), splitMessages (ms.flatMap (fun m => messageFrames m.1 m.2)) = ([], ms)

/-! ### Bus transport -/

/-- 20 R56: bit 7 in the first clock period, bit 0 in the eighth. -/
def Obligations.BytesGoOutMostSignificantBitFirst : Prop :=
  ∀ v : Byte, (byteSlots v).map BitSlot.mosi =
    [v.getLsbD 7, v.getLsbD 6, v.getLsbD 5, v.getLsbD 4, v.getLsbD 3, v.getLsbD 2, v.getLsbD 1, v.getLsbD 0]

/-- 30 R72, 40 R103: `MOSI` carries `v[7-k]` in period `k`, `SCK` makes one excursion per period, `SH` and `BC`
after `n` periods are `v << n` and `n`, and the window leaves the clock at rest after 8 periods. -/
def Obligations.ShiftRegisterFollowsTheByte : Prop :=
  ∀ (v : Byte) (x : Serial),
    (Serial.slots 8 (x.load v)).length = 8 ∧
    (∀ k, k < 8 → (Serial.slots 8 (x.load v))[k]? = some { mosi := v.getLsbD (7 - k), sck := [.idle, .active, .idle] }) ∧
    (∀ n, n ≤ 8 → (Serial.periods n (x.load v)).sh = v <<< n ∧ (Serial.periods n (x.load v)).bc = BitVec.ofNat 4 n) ∧
    (x.shiftOut v).sck = some .idle ∧ (x.shiftOut v).mosi = none ∧ (x.shiftOut v).bc = 8

/-- 40 R100, R101: SETCMD and SETDAT. The event is recorded and `dc_fresh` set whatever the line held. -/
def Obligations.DiscriminatorWritesEffect : Prop :=
  (∀ c : Config, encode c .setcmd = .uop 0x100 ∧ encode c .setdat = .uop 0x200) ∧
  ∀ s : State,
    (s.drv = true →
      exec .setcmd s =
        .next { s with dc := some .cmd, dcFresh := true, trace := s.trace ++ [.dcW .cmd], upc := s.upc + 1 } ∧
      exec .setdat s =
        .next { s with dc := some .data, dcFresh := true, trace := s.trace ++ [.dcW .data], upc := s.upc + 1 }) ∧
    (s.drv = false → exec .setcmd s = .fault .notDriven ∧ exec .setdat s = .fault .notDriven)

/-- 40 R102: XFER, with its three requirements in the rule's order. The serial registers end as 40 R103 leaves
them. -/
def Obligations.XferEffect : Prop :=
  ∀ (v : Byte) (s : State),
    (s.drv = true → s.dcFresh = true → s.cs = some .high → exec (.xfer v) s =
      .next { s with
        cs := some .high, ser := s.ser.shiftOut v, dcFresh := false,
        trace := s.trace ++ [.csW .low, .byte v, .csW .high], upc := s.upc + 1 }) ∧
    (s.drv = false → exec (.xfer v) s = .fault .notDriven) ∧
    (s.drv = true → s.dcFresh = false → exec (.xfer v) s = .fault .dcNotSet) ∧
    (s.drv = true → s.dcFresh = true → s.cs ≠ some .high → exec (.xfer v) s = .fault .selectAlreadyLow)

/-- 40 R104: CMD. With a driven bus the frame goes out whatever level select has: where select is not high that is
the model's choice, the pseudocode against the prose (log 28). -/
def Obligations.CmdEffect : Prop :=
  ∀ (c : Byte) (s : State),
    (s.drv = true → exec (.cmd c) s =
      .next { s with
        dc := some .cmd, cs := some .high, ser := s.ser.shiftOut c, dcFresh := false,
        trace := s.trace ++ [.dcW .cmd, .csW .low, .byte c, .csW .high], upc := s.upc + 1 }) ∧
    (s.drv = false → exec (.cmd c) s = .fault .notDriven)

/-- 40 R105: DAT. Where select is not high on a driven bus the frame going out is the model's choice (log 28). -/
def Obligations.DatEffect : Prop :=
  ∀ (d : Byte) (s : State),
    (s.drv = true → exec (.dat d) s =
      .next { s with
        dc := some .data, cs := some .high, ser := s.ser.shiftOut d, dcFresh := false,
        trace := s.trace ++ [.dcW .data, .csW .low, .byte d, .csW .high], upc := s.upc + 1 }) ∧
    (s.drv = false → exec (.dat d) s = .fault .notDriven)

/-- 30 R84: CMD, DAT and HARDRESET have exactly the effect of their expansions run in order, `UPC` apart
(one step advances it once), from every state with a driven bus and select high. Where select is not high CMD and
DAT do not have XFER's fault: log 28. -/
def Obligations.CompositesEqualTheirExpansions : Prop :=
  ∀ (i : Instr) (s : State), (∃ b, i = .cmd b ∨ i = .dat b) ∨ i = .hardreset →
    s.drv = true → s.cs = some .high → s.cfg.tRstHi1 = 20 → s.cfg.tRstLo = 1 → s.cfg.tRstHi2 = 20 →
    ∃ t u, exec i s = .next t ∧ execList (i.expansion s.cfg) s = .next u ∧
      t = { u with upc := s.upc + 1 } ∧ u.upc = s.upc + (i.expansion s.cfg).length

/-- 40 R109: while `drv = 0` nothing that writes a pin runs. That a wire row, which is not fetched, answers `fault
NotDriven` too is the model's DESIGN CHOICE (log 16). -/
def Obligations.NoPinWriteWhileUndriven : Prop :=
  ∀ (i : Instr) (s : State), s.drv = false → holdsOk s.cfg = true →
    ((∃ b, i = .xfer b ∨ i = .cmd b ∨ i = .dat b ∨ i = .wireCmd b ∨ i = .wireData b) ∨ (∃ l, i = .rstw l) ∨
     (∃ b ds, i = .initEntry b ds) ∨ (∃ p q, i = .pixelData p q) ∨
     i ∈ [.setcmd, .setdat, .hardreset, .frameStart, .powerOn, .refresh, .powerOff, .deepSleep] ∨
     (i = .stream ∧ s.prog = some .display ∧ s.bcnt < frameBytes s.cfg)) →
    exec i s = .fault .notDriven

/-! ### The wire rows -/

/-- 30 R71: the 9 bits of a frame, and what one frame does on the pins, for a command and for a data frame. That
`exec` of a wire row puts the frame on the pins, whatever level select has, and leaves `UPC` is the model's DESIGN
CHOICE (log 16, log 28). -/
def Obligations.WireFrameOnThePins : Prop :=
  (∀ v : Byte, (frameWord (.cmd, v)).toNat = v.toNat ∧ (frameWord (.data, v)).toNat = 256 + v.toNat ∧
    wordFrame (frameWord (.cmd, v)) = (.cmd, v) ∧ wordFrame (frameWord (.data, v)) = (.data, v)) ∧
  (∀ (v : Byte) (s : State), s.drv = true →
    exec (.wireCmd v) s = .next { s with
      dc := some .cmd, cs := some .high, ser := s.ser.shiftOut v, dcFresh := false,
      trace := s.trace ++ [.dcW .cmd, .csW .low, .byte v, .csW .high] } ∧
    exec (.wireData v) s = .next { s with
      dc := some .data, cs := some .high, ser := s.ser.shiftOut v, dcFresh := false,
      trace := s.trace ++ [.dcW .data, .csW .low, .byte v, .csW .high] })

/-- 30 R77, 44 R183, R187, R188, R189: the frames of the commands with none or one data byte. The frames are the
rules'; that `exec` of a wire row puts them on the pins, whatever level select has, and leaves `UPC` is the model's
DESIGN CHOICE (log 16, log 28). -/
def Obligations.PanelCommandsOnThePins : Prop :=
  ∀ s : State, s.drv = true →
    exec .frameStart s = .next { s with
      dc := some .cmd, cs := some .high, ser := s.ser.shiftOut s.cfg.cmdFrameStart, dcFresh := false,
      trace := s.trace ++ frameEvents (.cmd, s.cfg.cmdFrameStart) } ∧
    exec .powerOn s = .next { s with
      dc := some .cmd, cs := some .high, ser := s.ser.shiftOut s.cfg.cmdPowerOn, dcFresh := false,
      trace := s.trace ++ frameEvents (.cmd, s.cfg.cmdPowerOn) } ∧
    exec .refresh s = .next { s with
      dc := some .data, cs := some .high
      ser := (s.ser.shiftOut s.cfg.cmdRefresh).shiftOut s.cfg.argRefresh, dcFresh := false,
      trace := s.trace ++ (frameEvents (.cmd, s.cfg.cmdRefresh) ++ frameEvents (.data, s.cfg.argRefresh)) } ∧
    exec .powerOff s = .next { s with
      dc := some .data, cs := some .high
      ser := (s.ser.shiftOut s.cfg.cmdPowerOff).shiftOut s.cfg.argPowerOff, dcFresh := false,
      trace := s.trace ++ (frameEvents (.cmd, s.cfg.cmdPowerOff) ++ frameEvents (.data, s.cfg.argPowerOff)) }

/-- 30 R78, R80, 44 R191: messages with a list of data bytes (the deep-sleep command and its payload, an init
entry), and a pixel byte. The discriminator ends in the mode of the last frame. The frames are the rules'; that
`exec` of a wire row puts them on the pins, whatever level select has, and leaves `UPC` is the model's DESIGN
CHOICE (log 16, log 28). -/
def Obligations.MessagesOnThePins : Prop :=
  ∀ s : State, s.drv = true →
    (∃ t, exec .deepSleep s = .next t ∧
      t = { s with
        dc := some (if s.cfg.sleepPayload = [] then .cmd else .data), cs := some .high, ser := t.ser, dcFresh := false,
        trace := s.trace ++ framesEvents ((.cmd, s.cfg.cmdDeepSleep) :: s.cfg.sleepPayload.map (fun d => (.data, d))) }) ∧
    (∀ (c : Byte) (ds : List Byte), ∃ t, exec (.initEntry c ds) s = .next t ∧
      t = { s with
        dc := some (if ds = [] then .cmd else .data), cs := some .high, ser := t.ser, dcFresh := false,
        trace := s.trace ++ framesEvents ((.cmd, c) :: ds.map (fun d => (.data, d))) }) ∧
    (∀ p0 p1 : Nibble, exec (.pixelData p0 p1) s = .next { s with
        dc := some .data, cs := some .high, ser := s.ser.shiftOut (p0 ++ p1), dcFresh := false,
        trace := s.trace ++ frameEvents (.data, p0 ++ p1) })

/-! ### Reset pulse and barrier -/

/-- 41 R120: RSTW. -/
def Obligations.RstwEffect : Prop :=
  (∀ c : Config, encode c (.rstw .low) = .uop 0x600 ∧ encode c (.rstw .high) = .uop 0x601) ∧
  ∀ (l : Level) (s : State),
    (s.drv = true → exec (.rstw l) s =
      .next { s with rst := some l, trace := s.trace ++ [.rstW l], upc := s.upc + 1 }) ∧
    (s.drv = false → exec (.rstw l) s = .fault .notDriven)

/-- 41 R121: DELAY, for every operand from 0 to 255 and whatever `drv` is. The time that passes is a free
value with the rule's lower bound. -/
def Obligations.DelayEffect : Prop :=
  (∀ (c : Config) (d : Byte), encode c (.delay d) = .uop (BitVec.ofNat 12 (0x700 + d.toNat))) ∧
  ∀ (d : Byte) (s : State), ∃ t, exec (.delay d) s = .next t ∧ s.now + d.toNat ≤ t.now ∧
    t = { s with
      now := t.now, tmr := t.tmr, draws := t.draws, trace := s.trace ++ [.wait d.toNat], upc := s.upc + 1 }

/-- 41 R122: HARDRESET in a configuration with the source's holds, from any level of the reset line. -/
def Obligations.HardresetEffect : Prop :=
  (∀ c : Config, encode c .hardreset = .uop 0xA00) ∧
  ∀ s : State, s.cfg.tRstHi1 = 20 → s.cfg.tRstLo = 1 → s.cfg.tRstHi2 = 20 →
    (s.drv = true → ∃ t, exec .hardreset s = .next t ∧ s.now + 41 ≤ t.now ∧
      t = { s with
        rst := some .high, now := t.now, tmr := t.tmr, draws := t.draws,
        trace := s.trace ++ [.rstW .high, .wait 20, .rstW .low, .wait 1, .rstW .high, .wait 20],
        upc := s.upc + 1 }) ∧
    (s.drv = false → exec .hardreset s = .fault .notDriven)

/-- 41 R123: a configuration with a shorter hold is refused; longer holds are allowed and are the ones kept. -/
def Obligations.ShortResetHoldsAreRefused : Prop :=
  ∀ s : State,
    (s.cfg.tRstHi1 < 20 ∨ s.cfg.tRstLo < 1 ∨ s.cfg.tRstHi2 < 20 → exec .hardreset s = .refused .shortResetHold) ∧
    (20 ≤ s.cfg.tRstHi1 → 1 ≤ s.cfg.tRstLo → 20 ≤ s.cfg.tRstHi2 → s.drv = true →
      ∃ t, exec .hardreset s = .next t ∧ s.now + s.cfg.tRstHi1 + s.cfg.tRstLo + s.cfg.tRstHi2 ≤ t.now ∧
        t.trace = s.trace ++ pulseEvents s.cfg)

/-- 41 R124: YIELD; some time above 0 passes, and `yield_o` is high in the step. -/
def Obligations.YieldEffect : Prop :=
  (∀ c : Config, encode c .yield = .uop 0x900) ∧
  ∀ s : State, ∃ t, exec .yield s = .next t ∧ s.now < t.now ∧ yieldOut s t = true ∧
    t = { s with now := t.now, tmr := t.tmr, draws := t.draws, trace := s.trace ++ [.yield], upc := s.upc + 1 }

/-- 41 R125, R126: one poll of WAITRDY, whichever way the line reads and whether the wait begins or goes on. A
poll read high passes the barrier; a poll read busy below the bound is counted, PPD yields, `UPC` stays. -/
def Obligations.WaitrdyPollsOnce : Prop :=
  ∀ (s : State) (k : Nat), k = (if s.inWait then s.pcnt else 0) →
    (s.pins.rdy = true → exec .waitrdy s = .next { s with
      pcnt := k, inWait := false, trace := s.trace ++ [.poll true], upc := s.upc + 1 }) ∧
    (s.pins.rdy = false → belowBound s.cfg (k + 1) → ∃ t, exec .waitrdy s = .next t ∧ s.now < t.now ∧
      t = { s with
        pcnt := k + 1, inWait := true, now := t.now, tmr := t.tmr, draws := t.draws,
        trace := s.trace ++ [.poll false, .yield] })

/-- 41 R128, 60 R225: with `BUSY_TIMEOUT = some N` the N-th consecutive busy poll ends the operation with
`HwNotResponding`; the pins, `drv`, `WARN_CNT` and `dc_fresh` are left (60 R230). -/
def Obligations.BusyTimeoutEndsTheOperation : Prop :=
  ∀ (s : State) (p : Prog) (n k : Nat), s.cfg.busyTimeout = some n → s.prog = some p → s.pins.rdy = false →
    k = (if s.inWait then s.pcnt else 0) + 1 → n ≤ k →
    exec .waitrdy s = .next { s with
      status := .hwNotResponding, mode := .unconfigured, phase := .idle, prog := none, upc := 0, fb := [],
      pcnt := k, inWait := false, trace := s.trace ++ [.poll false, .done p.op .hwNotResponding] }

/-- 41 R126: a WAITRDY that ends after `n` busy polls contributes `[Poll(0), Yield]` n times and then
`[Poll(1)]`, and nothing else changes but `UPC` and the count of the wait. -/
def Obligations.CompletedBarrierTrace : Prop :=
  ∀ (s : State) (p : Prog) (ps : List Pins) (q : Pins),
    s.prog = some p → (s.rom.words p)[s.upc]? = some 0x800 → s.inWait = false →
    noReset ps → allBusy ps → belowBound s.cfg ps.length → q.rst = false → q.rdy = true →
    ∃ t, runWith (ps ++ [q]) s = .next t ∧ s.now ≤ t.now ∧
      t = { s with
        upc := s.upc + 1, pcnt := ps.length, now := t.now, tmr := t.tmr, draws := t.draws, pins := t.pins,
        trace := s.trace ++ barrierEvents ps.length }

/-- 41 R127, 93 U13: with no timeout a line that stays busy keeps the operation where it is, for any number of
polls: no `Done`, `PHASE`, `PROG`, `UPC`, `MODE` and `STATUS` as they were. -/
def Obligations.StuckBusyLineHangs : Prop :=
  ∀ (s : State) (p : Prog) (ps : List Pins),
    s.prog = some p → (s.rom.words p)[s.upc]? = some 0x800 → s.cfg.busyTimeout = none →
    noReset ps → allBusy ps →
    ∃ t, runWith ps s = .next t ∧
      t = { s with
        pcnt := t.pcnt, inWait := t.inWait, now := t.now, tmr := t.tmr, draws := t.draws, pins := t.pins,
        trace := s.trace ++ busyEvents ps.length }

/-! ### Sequencer -/

/-- 42 R147: END. The frame buffer is let go (10 R37, R42). -/
def Obligations.EndEffect : Prop :=
  ∀ (s : State) (p : Prog), s.prog = some p →
    exec .endOp s = .next { s with
      mode := (match p with | .init => .ready | .display => s.mode | .sleep => .asleep),
      status := .ok, phase := .idle, prog := none, upc := 0, inWait := false, fb := [],
      trace := s.trace ++ [.done p.op .ok] }

/-- 42 R148: PHASE, for the codes 0 to 8 and for the others. -/
def Obligations.PhaseEffect : Prop :=
  (∀ (c : Config) (p : Nibble), encode c (.phase p) = .uop (BitVec.ofNat 12 (0xC00 + p.toNat))) ∧
  ∀ s : State,
    (∀ q : Phase, exec (.phase (phaseCode q)) s = .next { s with phase := q, upc := s.upc + 1 }) ∧
    (∀ p : Nibble, 8 < p.toNat → exec (.phase p) s = .fault .illegalUop)

/-! ### Converter and stream -/

/-- 43 R161, R162, R165, 30 R79: `Native4` passes every byte unchanged without a warning; in `Lut3` each nibble is
looked up by itself, the colours have the native nibbles of 30 R79, and there is exactly one warning per code
above 6, first pixel first; all white in both variants. -/
def Obligations.ConverterMapsClampsAndWarns : Prop :=
  (∀ b : Byte, conv .native4 b = (b, [])) ∧
  (∀ p q : Nibble, conv .lut3 (packPixels p q) =
    (packPixels (lut p) (lut q), (if 6 < p.toNat then [p] else []) ++ (if 6 < q.toNat then [q] else []))) ∧
  (∀ b : Byte, packPixels (firstPixel b) (secondPixel b) = b) ∧
  (([0, 1, 2, 3, 4, 5, 6] : List Nibble).map lut = [0x0, 0x3, 0x5, 0x6, 0x4, 0x7, 0x8] ∧
    ∀ p : Nibble, 6 < p.toNat → lut p = 0x0) ∧
  (∀ (c : Config) (a : Colour), a ≠ .clean → lut (inputCode a) = nativeNibble c a) ∧
  conv .lut3 0x11 = (0x33, []) ∧ conv .native4 0x33 = (0x33, [])

/-- 44 R184: one STREAM step with a byte left: the warnings, the data frame, the counts, the yield at the end of
a chunk or of the frame, and `UPC` at the end of the frame. Where select is not high on a driven bus: log 28. -/
def Obligations.StreamSendsOneByte : Prop :=
  ∀ (s : State) (b : Byte) (ws : List Nibble), s.prog = some .display → s.drv = true → s.bcnt < frameBytes s.cfg →
    conv s.cfg.encoding (s.fb.read s.bcnt) = (b, ws) →
    ∃ t, exec .stream s = .next t ∧ s.now ≤ t.now ∧
      t = { s with
        warnCnt := s.warnCnt + ws.length, dc := some .data, cs := some .high, ser := s.ser.shiftOut b,
        dcFresh := false, bcnt := s.bcnt + 1,
        ccnt := if s.ccnt + 1 = chunkBytes s.cfg ∨ s.bcnt + 1 = frameBytes s.cfg then 0 else s.ccnt + 1,
        upc := if s.bcnt + 1 = frameBytes s.cfg then s.upc + 1 else s.upc,
        now := t.now, tmr := t.tmr, draws := t.draws,
        trace := s.trace ++ ws.map .warn ++ [.dcW .data, .csW .low, .byte b, .csW .high] ++
          (if s.ccnt + 1 = chunkBytes s.cfg ∨ s.bcnt + 1 = frameBytes s.cfg then [.yield] else []) }

/-- 44 R184 (d): STREAM with no byte left only moves on; and outside the display micro-program the rule's
requirement fails and the model stops by name (log 14). -/
def Obligations.StreamWithoutBytesMovesOn : Prop :=
  ∀ s : State,
    (s.prog = some .display → frameBytes s.cfg ≤ s.bcnt → exec .stream s = .next { s with upc := s.upc + 1 }) ∧
    (s.prog ≠ some .display → exec .stream s = .fault .streamOutsideDisplay)

/-- 44 R186: the chunk size is not observable. Under any other `CHUNK_ROWS` (and any count in the chunk) a
STREAM step sends the same frame, with the same trace but for `Yield`, and moves `BCNT` and `UPC` alike; and
the whole list of events of a DISPLAYFRAME is the same but for `Yield`. -/
def Obligations.ChunkSizeIsUnobservable : Prop :=
  (∀ (s t u : State) (r n : Nat),
    exec .stream s = .next t → exec .stream { s with cfg := { s.cfg with chunkRows := r }, ccnt := n } = .next u →
    withoutYields t.trace = withoutYields u.trace ∧ frames t.trace = frames u.trace ∧ t.bcnt = u.bcnt ∧
    t.upc = u.upc ∧ t.warnCnt = u.warnCnt) ∧
  (∀ (c : Config) (fb : Memory) (r n1 n2 n3 : Nat),
    withoutYields (displayEvents { c with chunkRows := r } fb n1 n2 n3) = withoutYields (displayEvents c fb n1 n2 n3))

/-- 44 R184, R185, R186: the whole stream. From STREAM with `BCNT = 0`, `FRAME_BYTES` steps on any inputs without
a block reset send exactly the converted bytes of the buffer, in order, one data frame each, warnings before
their frame and a yield after each chunk, `N_CHUNKS` in all, and end at the next word. Where select is not high on a
driven bus, that the bytes go out is the model's DESIGN CHOICE (log 28). -/
def Obligations.StreamSendsTheWholeFrame : Prop :=
  ∀ (s : State) (ps : List Pins),
    s.prog = some .display → (s.rom.words .display)[s.upc]? = some 0xB00 → s.drv = true →
    s.bcnt = 0 → s.ccnt = 0 → 0 < frameBytes s.cfg → s.cfg.width % 2 = 0 → 1 ≤ s.cfg.chunkRows →
    noReset ps → ps.length = frameBytes s.cfg →
    ∃ t, runWith ps s = .next t ∧ t.trace = s.trace ++ streamEvents s.cfg s.fb ∧
      frames t.trace = frames s.trace ++ pixelFrames s.cfg s.fb ∧
      yieldCount (streamEvents s.cfg s.fb) = nChunks s.cfg ∧
      t.bcnt = frameBytes s.cfg ∧ t.ccnt = 0 ∧ t.upc = s.upc + 1 ∧ t.prog = s.prog ∧ t.fb = s.fb ∧
      t.mode = s.mode ∧ t.phase = s.phase ∧ t.status = s.status

/-- 20 R52: every pixel of the panel has a nibble of its own in the buffer, inside `FRAME_BYTES`. -/
def Obligations.EveryPixelHasItsOwnNibble : Prop :=
  ∀ (c : Config), c.width % 2 = 0 →
    (∀ x y, x < c.width → y < c.height → pixelOffset c x y < frameBytes c) ∧
    (∀ x y x' y', x < c.width → x' < c.width → pixelOffset c x y = pixelOffset c x' y' → x % 2 = x' % 2 →
      x = x' ∧ y = y')

/-! ### Host operations -/

/-- 60 R226: the reserved request code. -/
def Obligations.ReservedRequestIsBadOp : Prop :=
  ∀ s : State, s.phase = .idle →
    exec .hostopReserved s = .next { s with status := .badOp, trace := s.trace ++ [.done .reserved .badOp] }

/-- 42 R140, R141: INITIALIZE admitted in any mode, with the draw `cfg_ok = 1`. Dispatch writes `PHASE` (10 R29);
that it writes `Resetting` is DEDUCED (log 12). -/
def Obligations.InitializeStartsTheSequence : Prop :=
  ∀ s : State, s.phase = .idle → s.pins.cfgOk = true →
    exec .initializeOp s = .next { s with
      mode := .unconfigured, drv := true, cs := some .high, ser := s.ser.configured, prog := some .init, upc := 0,
      phase := .resetting, inWait := false, trace := s.trace ++ [.cfg, .csW .high] } ∧
    s.ser.configured.sck = some .idle

/-- 60 R221, 42 R141: INITIALIZE with `cfg_ok = 0`: `SetupFailure`, no pin event, `drv` unchanged. -/
def Obligations.SetupFailureIsPrecise : Prop :=
  ∀ s : State, s.phase = .idle → s.pins.cfgOk = false →
    exec .initializeOp s = .next { s with
      status := .setupFailure, mode := .unconfigured, phase := .idle, prog := none, upc := 0, inWait := false,
      fb := [], trace := s.trace ++ [.done .initializeOp .setupFailure] }

/-- 44 R180: DISPLAYFRAME admitted. Dispatch writes `PHASE` (10 R29); that it writes `Transmitting` is DEDUCED
(log 12). -/
def Obligations.DisplayframeAdmitted : Prop :=
  ∀ s : State, s.phase = .idle → s.mode = .ready → s.pins.reqLen.toNat = frameBytes s.cfg →
    exec .displayframe s = .next { s with
      len := frameBytes s.cfg, bcnt := 0, ccnt := 0, warnCnt := 0, fb := s.pins.fb, prog := some .display, upc := 0,
      phase := .transmitting, inWait := false }

/-- 60 R223, R224, R229: DISPLAYFRAME rejected: `NotConfigured` whatever the length while not `Ready`,
`BadLength` in `Ready` for every other length; only `STATUS` and the trace change (the pins too stay). -/
def Obligations.DisplayframeRejections : Prop :=
  ∀ s : State, s.phase = .idle →
    (s.mode = .unconfigured ∨ s.mode = .asleep → exec .displayframe s = .next { s with
      status := .notConfigured, trace := s.trace ++ [.done .displayframe .notConfigured] }) ∧
    (s.mode = .ready → s.pins.reqLen.toNat ≠ frameBytes s.cfg → exec .displayframe s = .next { s with
      status := .badLength, trace := s.trace ++ [.done .displayframe .badLength] })

/-- 44 R191, 60 R223: SLEEP admitted in `Ready`, rejected otherwise; and 10 R28: reading the reserved code of
`MODE`, which SLEEP and DISPLAYFRAME do (log 13), stops the model. Dispatch writes `PHASE` (10 R29); that it
writes `Sleeping` is DEDUCED (log 12). -/
def Obligations.SleepAdmission : Prop :=
  ∀ s : State, s.phase = .idle →
    (s.mode = .ready → exec .sleep s =
      .next { s with prog := some .sleep, upc := 0, phase := .sleeping, inWait := false }) ∧
    (s.mode = .unconfigured ∨ s.mode = .asleep → exec .sleep s = .next { s with
      status := .notConfigured, trace := s.trace ++ [.done .sleep .notConfigured] }) ∧
    (s.mode = .reserved → exec .sleep s = .fault .badMode ∧ exec .displayframe s = .fault .badMode)

/-- 60 R229, 44 R193, R199: a request presented while an operation runs is not taken and changes nothing, and a step
does not look at it: it runs the operation's word. 10 R41, R29: `req_ready` is 1 exactly when `PHASE = Idle`, which
in every consistent state is exactly when nothing runs. The third part also speaks of a state that shows `Idle`
while a micro-program runs; that a step takes no request there is the model's DESIGN CHOICE (log 12). -/
def Obligations.RequestWhileBusyIsNotTaken : Prop :=
  (∀ (s : State) (w : HostWord), s.phase ≠ .idle → exec (decodeHostop w) s = .next s) ∧
  (∀ (s : State) (w : HostWord) (p : Prog), Consistent s → s.prog = some p → exec (decodeHostop w) s = .next s) ∧
  (∀ (s : State) (p : Prog), s.pins.rst = false → s.prog = some p → step s = thenSample (runUop p s)) ∧
  (∀ s : State, s.reqReady = true ↔ s.phase = .idle) ∧
  (∀ s : State, Consistent s → (s.reqReady = true ↔ s.prog = none))

/-! ### Whole operations -/

/-- 42 R143: the whole trace of a successful INITIALIZE from any idle state: configuration, the reset pulse, one
completed barrier after `busy.length` busy polls, every init entry in order, `Done`. The inputs are arbitrary
but for the request, `cfg_ok = 1`, no block reset, and what the ready line answers at the barrier. -/
def Obligations.InitializeReplaysTheTableExactly : Prop :=
  ∀ (s : State) (r q : Pins) (a busy b : List Pins),
    s.prog = none → s.phase = .idle → s.rom = Rom.ofConfig s.cfg →
    s.cfg.tRstHi1 = 20 → s.cfg.tRstLo = 1 → s.cfg.tRstHi2 = 20 →
    r.rst = false → r.reqValid = true → r.reqOp = 0b01 → r.cfgOk = true →
    noReset a → a.length = 3 → noReset busy → allBusy busy → belowBound s.cfg busy.length →
    q.rst = false → q.rdy = true → noReset b → b.length = (tableFrames s.cfg).length + 2 →
    ∃ t, runWith (r :: (a ++ (busy ++ (q :: b)))) s = .next t ∧
      t.trace = s.trace ++
        ([.cfg, .csW .high, .rstW .high, .wait 20, .rstW .low, .wait 1, .rstW .high, .wait 20] ++
          barrierEvents busy.length ++ framesEvents (tableFrames s.cfg) ++ [.done .initializeOp .ok]) ∧
      frames t.trace = frames s.trace ++ tableFrames s.cfg ∧
      t.drv = true ∧ t.cs = some .high ∧ t.rst = some .high ∧ t.mode = .ready ∧ t.phase = .idle ∧
      t.status = .ok ∧ t.prog = none ∧ t.upc = 0

/-- 44 R190: the frame trace of a whole admitted DISPLAYFRAME is exactly the rule's list, of length
`FRAME_BYTES + 6`; the full trace has the yields after the chunks, one completed barrier at each of the three
places, `Done`, and nothing else; it ends `Ok` in `Ready`. The inputs are arbitrary but for the request, no
block reset, and what the ready line answers at the three barriers. Where select is not high at the request, that CMD,
DAT and STREAM send is the model's DESIGN CHOICE (log 28); with select high the statement is R190's. -/
def Obligations.DisplayframeSendsExactlyTheseFrames : Prop :=
  ∀ (s : State) (r q1 q2 q3 : Pins) (a w1 b1 w2 b2 w3 : List Pins) (e : Pins),
    s.prog = none → s.phase = .idle → s.mode = .ready → s.drv = true → s.rom = Rom.ofConfig s.cfg →
    0 < frameBytes s.cfg →
    r.rst = false → r.reqValid = true → r.reqOp = 0b10 → r.reqLen.toNat = frameBytes s.cfg →
    noReset a → a.length = 2 + frameBytes s.cfg + 2 →
    noReset w1 → allBusy w1 → belowBound s.cfg w1.length → q1.rst = false → q1.rdy = true →
    noReset b1 → b1.length = 3 →
    noReset w2 → allBusy w2 → belowBound s.cfg w2.length → q2.rst = false → q2.rdy = true →
    noReset b2 → b2.length = 3 →
    noReset w3 → allBusy w3 → belowBound s.cfg w3.length → q3.rst = false → q3.rdy = true → e.rst = false →
    ∃ t, runWith (r :: (a ++ (w1 ++ (q1 :: (b1 ++ (w2 ++ (q2 :: (b2 ++ (w3 ++ [q3, e]))))))))) s = .next t ∧
      t.trace = s.trace ++ displayEvents s.cfg r.fb w1.length w2.length w3.length ∧
      frames t.trace = frames s.trace ++ displayFrames s.cfg r.fb ∧
      (displayFrames s.cfg r.fb).length = frameBytes s.cfg + 6 ∧
      t.mode = .ready ∧ t.phase = .idle ∧ t.status = .ok ∧ t.prog = none ∧ t.upc = 0 ∧
      t.bcnt = frameBytes s.cfg ∧ t.len = frameBytes s.cfg ∧ t.rst = s.rst

/-- 44 R191, R192: what `ROM(Sleep)` decodes to and its length; and a whole SLEEP, from the request on: taken in
`Ready` it sends the deep-sleep command and its payload, drops the reset line, and leaves `MODE = Asleep` with the
bus open. The inputs are arbitrary but for the request and no block reset. Where select is not high at the request,
that CMD and DAT send is the model's DESIGN CHOICE (log 28). -/
def Obligations.SleepDropsTheResetLine : Prop :=
  (∀ c : Config,
    (romSleep c).map decodeUop =
      (([.phase (phaseCode .sleeping), .cmd c.cmdDeepSleep] ++ c.sleepPayload.map .dat ++
        [.rstw .low, .endOp] : List Instr)).map .ok ∧
    (romSleep c).length = 4 + c.sleepPayload.length) ∧
  (∀ (s : State) (r : Pins) (ps : List Pins),
    s.prog = none → s.phase = .idle → s.mode = .ready → s.drv = true → s.rom = Rom.ofConfig s.cfg →
    r.rst = false → r.reqValid = true → r.reqOp = 0b11 →
    noReset ps → ps.length = 4 + s.cfg.sleepPayload.length →
    ∃ t, runWith (r :: ps) s = .next t ∧
      t.trace = s.trace ++ framesEvents (messageFrames s.cfg.cmdDeepSleep s.cfg.sleepPayload) ++
        [.rstW .low, .done .sleep .ok] ∧
      t.mode = .asleep ∧ t.rst = some .low ∧ t.cs = some .high ∧ t.drv = true ∧ t.phase = .idle ∧
      t.status = .ok ∧ t.prog = none ∧ t.upc = 0)

/-! ### Invariants and whole-machine rules -/

/-- 60 R227: from every consistent state a step answers a next state, and a consistent one: none of the model's
faults or refusals is reachable through the three host operations and the three micro-programs. -/
def Obligations.ConsistentStatesNeverStop : Prop :=
  ∀ s : State, Consistent s → ∃ t, step s = .next t ∧ Consistent t

/-- The reset state meets every invariant below. -/
def Obligations.ResetMeetsTheInvariants : Prop :=
  Consistent State.reset ∧ Framed State.reset ∧ MemoryCanonical State.reset ∧ CountersInRange State.reset ∧
  SessionKept State.reset

/-- 00 R11, 40 R106: every step keeps the trace well framed and `dc_fresh` true to it: for every micro-program
whatever, hand-written ones too. -/
def Obligations.EveryStepKeepsTheTraceWellFramed : Prop :=
  ∀ s t : State, Framed s → step s = .next t → Framed t ∧ wellFramed t.trace = true

/-- 70 R268, 60 R235, R236: frames go only to a configured panel. -/
def Obligations.EveryStepKeepsTheSession : Prop :=
  ∀ s t : State, Consistent s → SessionKept s → step s = .next t → SessionKept t

/-- Log 5 and 10 R31, R34: every step keeps the buffers canonical and the counters in range. -/
def Obligations.EveryStepKeepsMemoryAndCounters : Prop :=
  ∀ s t : State, step s = .next t →
    (MemoryCanonical s → MemoryCanonical t) ∧ (CountersInRange s → CountersInRange t)

/-- 60 R236: mode transitions, all of them, for every instruction in every state. -/
def Obligations.ModeChangesOnlyAsListed : Prop :=
  ∀ (i : Instr) (s t : State), exec i s = .next t → t.mode = s.mode ∨
    (i = .initializeOp ∧ t.mode = .unconfigured) ∨
    (i = .endOp ∧ s.prog = some .init ∧ t.mode = .ready) ∨
    (i = .endOp ∧ s.prog = some .sleep ∧ t.mode = .asleep) ∨
    (i = .waitrdy ∧ t.status = .hwNotResponding ∧ t.mode = .unconfigured)

/-- 10 R36: every register is written only by the rule that names it. For every instruction, in every state, each
register and each byte of the frame buffer is as it was unless the instruction is one of those listed. The model's
own in it: a wire row leaves `UPC` (log 16), when `TMR` is written (log 8), the wait bit (log 10), the count of
draws (log 4). -/
def Obligations.RegistersAreWrittenOnlyByTheirRules : Prop :=
  ∀ (i : Instr) (s t : State), exec i s = .next t →
    (t.cfg = s.cfg ∧ t.rom = s.rom ∧ t.pins = s.pins) ∧
    (i ≠ .initializeOp → t.drv = s.drv) ∧
    (i ≠ .hardreset → (∀ l, i ≠ .rstw l) → t.rst = s.rst) ∧
    ((∀ b, i ≠ .xfer b ∧ i ≠ .cmd b ∧ i ≠ .dat b) → i ≠ .stream → i ≠ .initializeOp → i.format ≠ .wire →
      t.cs = s.cs ∧ t.ser = s.ser) ∧
    ((∀ b, i ≠ .cmd b ∧ i ≠ .dat b) → i ∉ [.setcmd, .setdat, .stream] → i.format ≠ .wire → t.dc = s.dc) ∧
    ((∀ b, i ≠ .xfer b ∧ i ≠ .cmd b ∧ i ≠ .dat b) → i ∉ [.setcmd, .setdat, .stream] → i.format ≠ .wire →
      t.dcFresh = s.dcFresh) ∧
    (i ∉ [.initializeOp, .endOp, .waitrdy] → t.mode = s.mode) ∧
    (i ∉ [.initializeOp, .displayframe, .sleep, .endOp, .waitrdy] → (∀ p, i ≠ .phase p) → t.phase = s.phase) ∧
    (i ∉ [.endOp, .waitrdy] → i.format ≠ .hostop → t.status = s.status ∧ t.prog = s.prog) ∧
    (t.upc = s.upc ∨ (i.format = .uop ∧ t.upc = s.upc + 1) ∨
      (i ∈ [.initializeOp, .displayframe, .sleep, .endOp, .waitrdy] ∧ t.upc = 0)) ∧
    (i.format = .wire → t.upc = s.upc) ∧
    (i ≠ .stream → i ≠ .displayframe → t.warnCnt = s.warnCnt ∧ t.bcnt = s.bcnt ∧ t.ccnt = s.ccnt) ∧
    (i ≠ .displayframe → t.len = s.len) ∧
    (i ≠ .waitrdy → t.pcnt = s.pcnt) ∧
    (i ∉ [.initializeOp, .displayframe, .sleep, .endOp, .waitrdy] → t.inWait = s.inWait) ∧
    ((∀ b, i ≠ .delay b) → i ∉ [.waitrdy, .yield, .hardreset, .stream] →
      t.now = s.now ∧ t.tmr = s.tmr ∧ t.draws = s.draws) ∧
    (i ∉ [.displayframe, .endOp, .waitrdy, .initializeOp] → ∀ a, t.fb.read a = s.fb.read a)

/-- 10 R39: the trace is only appended to; no rule reads the trace or the clock. From a state with any other trace
and clock every instruction, and every step without block reset, has the same outcome: the same events are
appended, the same time passes, and everything else is the same. A step with block reset restarts both (10 R40). -/
def Obligations.GhostStateIsNeverRead : Prop :=
  (∀ (i : Instr) (s t : State), exec i s = .next t → ∃ ev, t.trace = s.trace ++ ev) ∧
  (∀ (i : Instr) (s : State) (tr : List Event) (n : Rat),
    exec i (s.withGhost tr n) =
      mapNext (fun t => t.withGhost (tr ++ stepEvents s t) (n + (t.now - s.now))) (exec i s)) ∧
  (∀ (s : State) (tr : List Event) (n : Rat), s.pins.rst = false →
    step (s.withGhost tr n) =
      mapNext (fun t => t.withGhost (tr ++ stepEvents s t) (n + (t.now - s.now))) (step s)) ∧
  (∀ (s : State) (tr : List Event) (n : Rat), s.pins.rst = true → step (s.withGhost tr n) = step s)

/-- 00 R7: no rule depends on P7, P8, P9, P10, P12 or P15 (nor, in a step, on P16): a machine with other values of
them does the same. -/
def Obligations.OpenParametersAreNeverRead : Prop :=
  ∀ (s : State) (o : Config), step (s.withOpen o) = mapNext (State.withOpen o) (step s)
end

