-- ==== Sys2Proof/Laws/Memory.lean ====
section
/-! SUPPORT. The laws of the frame buffer: every memory operation keeps the canonical form, a read after
a write to the same offset gives the byte written, and a write leaves every other offset alone. -/

namespace Sys2Proof.Machine

theorem Memory.above_mono {a b : Nat} (hab : a ≤ b) : ∀ {m : Memory}, Memory.above b m = true → Memory.above a m = true
  | [], _ => rfl
  | (k, v) :: m, h => by
    simp only [Memory.above, Bool.and_eq_true, decide_eq_true_eq] at h ⊢
    exact ⟨by omega, Memory.above_mono hab h.2⟩

theorem Memory.write_above {x a : Nat} {b : Byte} (hxa : x < a) :
    ∀ {m : Memory}, Memory.above x m = true → Memory.above x (Memory.write m a b) = true
  | [], _ => by by_cases hb : b = Memory.fill <;> simp [Memory.write, Memory.above, hb, hxa]
  | (k, v) :: m, h => by
    have h' := h
    simp only [Memory.above, Bool.and_eq_true, decide_eq_true_eq] at h'
    have hr := Memory.write_above (b := b) hxa h'.2
    unfold Memory.write
    split_ifs <;> simp_all [Memory.above]

/-- A write keeps the canonical form. -/
theorem Memory.write_wf (a : Nat) (b : Byte) : ∀ {m : Memory}, m.wf = true → (m.write a b).wf = true
  | [], _ => by by_cases hb : b = Memory.fill <;> simp [Memory.write, Memory.wf, Memory.above, hb]
  | (k, v) :: m, h => by
    have h' := h
    simp only [Memory.wf, Bool.and_eq_true, decide_eq_true_eq] at h'
    have hr := Memory.write_wf a b h'.2
    unfold Memory.write
    split_ifs with h1 h2 h3 h4
    · exact h
    · have := Memory.above_mono (Nat.le_of_lt h1) h'.1.2
      simp_all [Memory.wf, Memory.above]
    · exact h'.2
    · simp_all [Memory.wf]
    · have := Memory.write_above (b := b) (show k < a by omega) h'.1.2
      simp_all [Memory.wf]

theorem Memory.foldl_wf : ∀ (cs : List Host.Cell) (m : Memory), m.wf = true →
    (cs.foldl (fun m c => Memory.write m c.1 c.2) m).wf = true
  | [], _, h => h
  | c :: cs, m, h => Memory.foldl_wf cs (m.write c.1 c.2) (Memory.write_wf c.1 c.2 h)

/-- Cells in any order give a buffer in canonical form. -/
@[simp] theorem Memory.ofCells_wf (cs : List Host.Cell) : (Memory.ofCells cs).wf = true := Memory.foldl_wf cs [] rfl

theorem Memory.ofBytesAt_wf : ∀ (bs : List Byte) (a : Nat), (Memory.ofBytesAt a bs).wf = true
  | [], _ => rfl
  | b :: bs, a => Memory.write_wf a b (Memory.ofBytesAt_wf bs (a + 1))

/-- A buffer built from a list of bytes is in canonical form. -/
@[simp] theorem Memory.ofBytes_wf (bs : List Byte) : (Memory.ofBytes bs).wf = true := Memory.ofBytesAt_wf bs 0

/-- An offset below every listed one reads as the fill. -/
theorem Memory.read_of_above {a : Nat} : ∀ {m : Memory}, Memory.above a m = true → m.read a = Memory.fill
  | [], _ => rfl
  | (k, v) :: m, h => by
    simp only [Memory.above, Bool.and_eq_true, decide_eq_true_eq] at h
    simp [Memory.read, Nat.ne_of_gt h.1, Memory.read_of_above h.2]

/-- A read after a write to the same offset gives the byte written. -/
theorem Memory.read_write_same (a : Nat) (b : Byte) : ∀ {m : Memory}, m.wf = true → (m.write a b).read a = b
  | [], _ => by by_cases hb : b = Memory.fill <;> simp [Memory.write, Memory.read, hb]
  | (k, v) :: m, h => by
    simp only [Memory.wf, Bool.and_eq_true, decide_eq_true_eq] at h
    have hr := Memory.read_write_same a b h.2
    unfold Memory.write
    split_ifs with h1 h2 h3 h4
    · have := Memory.read_of_above (Memory.above_mono (Nat.le_of_lt h1) h.1.2)
      simp [Memory.read, Nat.ne_of_gt h1, this, h2]
    · simp [Memory.read]
    · subst h3; rw [Memory.read_of_above h.1.2, h4]
    · simp [Memory.read, h3]
    · simp [Memory.read, show k ≠ a by omega, hr]

/-- A write leaves every other offset alone. -/
theorem Memory.read_write_other {a x : Nat} (b : Byte) (hx : x ≠ a) : ∀ {m : Memory}, (m.write a b).read x = m.read x
  | [] => by by_cases hb : b = Memory.fill <;> simp [Memory.write, Memory.read, hb, Ne.symm hx]
  | (k, v) :: m => by
    have hr := Memory.read_write_other (m := m) b hx
    unfold Memory.write
    split_ifs with h1 h2 h3 h4
    · rfl
    · simp [Memory.read, Ne.symm hx]
    · simp [Memory.read, show k ≠ x by omega]
    · simp [Memory.read, show k ≠ x by omega]
    · simp [Memory.read, hr]

/-- The memory of the reset state is in canonical form. -/
theorem State.reset_memory_wf : State.reset.fb.wf = true ∧ State.reset.pins.fb.wf = true := ⟨rfl, rfl⟩

end Sys2Proof.Machine
end

