-- ==== Sys2Proof/Laws/State.lean ====
section
/-! SUPPORT. What each named operation of Machine/Ops.lean, Flags.lean, Pixel.lean and Fetch.lean does to each
field of the state: one lemma per field, so that no proof unfolds a record update. -/

namespace Sys2Proof.Machine

/-! ### emit -/

@[simp] theorem State.emit_cfg (es : List Event) (s : State) : (State.emit es s).cfg = s.cfg := rfl
@[simp] theorem State.emit_rom (es : List Event) (s : State) : (State.emit es s).rom = s.rom := rfl
@[simp] theorem State.emit_drv (es : List Event) (s : State) : (State.emit es s).drv = s.drv := rfl
@[simp] theorem State.emit_cs (es : List Event) (s : State) : (State.emit es s).cs = s.cs := rfl
@[simp] theorem State.emit_dc (es : List Event) (s : State) : (State.emit es s).dc = s.dc := rfl
@[simp] theorem State.emit_rst (es : List Event) (s : State) : (State.emit es s).rst = s.rst := rfl
@[simp] theorem State.emit_ser (es : List Event) (s : State) : (State.emit es s).ser = s.ser := rfl
@[simp] theorem State.emit_mode (es : List Event) (s : State) : (State.emit es s).mode = s.mode := rfl
@[simp] theorem State.emit_phase (es : List Event) (s : State) : (State.emit es s).phase = s.phase := rfl
@[simp] theorem State.emit_status (es : List Event) (s : State) : (State.emit es s).status = s.status := rfl
@[simp] theorem State.emit_warnCnt (es : List Event) (s : State) : (State.emit es s).warnCnt = s.warnCnt := rfl
@[simp] theorem State.emit_prog (es : List Event) (s : State) : (State.emit es s).prog = s.prog := rfl
@[simp] theorem State.emit_upc (es : List Event) (s : State) : (State.emit es s).upc = s.upc := rfl
@[simp] theorem State.emit_dcFresh (es : List Event) (s : State) : (State.emit es s).dcFresh = s.dcFresh := rfl
@[simp] theorem State.emit_bcnt (es : List Event) (s : State) : (State.emit es s).bcnt = s.bcnt := rfl
@[simp] theorem State.emit_ccnt (es : List Event) (s : State) : (State.emit es s).ccnt = s.ccnt := rfl
@[simp] theorem State.emit_pcnt (es : List Event) (s : State) : (State.emit es s).pcnt = s.pcnt := rfl
@[simp] theorem State.emit_len (es : List Event) (s : State) : (State.emit es s).len = s.len := rfl
@[simp] theorem State.emit_inWait (es : List Event) (s : State) : (State.emit es s).inWait = s.inWait := rfl
@[simp] theorem State.emit_tmr (es : List Event) (s : State) : (State.emit es s).tmr = s.tmr := rfl
@[simp] theorem State.emit_fb (es : List Event) (s : State) : (State.emit es s).fb = s.fb := rfl
@[simp] theorem State.emit_trace (es : List Event) (s : State) : (State.emit es s).trace = s.trace ++ es := rfl
@[simp] theorem State.emit_now (es : List Event) (s : State) : (State.emit es s).now = s.now := rfl
@[simp] theorem State.emit_pins (es : List Event) (s : State) : (State.emit es s).pins = s.pins := rfl
@[simp] theorem State.emit_draws (es : List Event) (s : State) : (State.emit es s).draws = s.draws := rfl

/-! ### advance -/

@[simp] theorem State.advance_cfg (s : State) : s.advance.cfg = s.cfg := rfl
@[simp] theorem State.advance_rom (s : State) : s.advance.rom = s.rom := rfl
@[simp] theorem State.advance_drv (s : State) : s.advance.drv = s.drv := rfl
@[simp] theorem State.advance_cs (s : State) : s.advance.cs = s.cs := rfl
@[simp] theorem State.advance_dc (s : State) : s.advance.dc = s.dc := rfl
@[simp] theorem State.advance_rst (s : State) : s.advance.rst = s.rst := rfl
@[simp] theorem State.advance_ser (s : State) : s.advance.ser = s.ser := rfl
@[simp] theorem State.advance_mode (s : State) : s.advance.mode = s.mode := rfl
@[simp] theorem State.advance_phase (s : State) : s.advance.phase = s.phase := rfl
@[simp] theorem State.advance_status (s : State) : s.advance.status = s.status := rfl
@[simp] theorem State.advance_warnCnt (s : State) : s.advance.warnCnt = s.warnCnt := rfl
@[simp] theorem State.advance_prog (s : State) : s.advance.prog = s.prog := rfl
@[simp] theorem State.advance_upc (s : State) : s.advance.upc = s.upc + 1 := rfl
@[simp] theorem State.advance_dcFresh (s : State) : s.advance.dcFresh = s.dcFresh := rfl
@[simp] theorem State.advance_bcnt (s : State) : s.advance.bcnt = s.bcnt := rfl
@[simp] theorem State.advance_ccnt (s : State) : s.advance.ccnt = s.ccnt := rfl
@[simp] theorem State.advance_pcnt (s : State) : s.advance.pcnt = s.pcnt := rfl
@[simp] theorem State.advance_len (s : State) : s.advance.len = s.len := rfl
@[simp] theorem State.advance_inWait (s : State) : s.advance.inWait = s.inWait := rfl
@[simp] theorem State.advance_tmr (s : State) : s.advance.tmr = s.tmr := rfl
@[simp] theorem State.advance_fb (s : State) : s.advance.fb = s.fb := rfl
@[simp] theorem State.advance_trace (s : State) : s.advance.trace = s.trace := rfl
@[simp] theorem State.advance_now (s : State) : s.advance.now = s.now := rfl
@[simp] theorem State.advance_pins (s : State) : s.advance.pins = s.pins := rfl
@[simp] theorem State.advance_draws (s : State) : s.advance.draws = s.draws := rfl

/-! ### setDc -/

@[simp] theorem State.setDc_cfg (m : DcMode) (s : State) : (s.setDc m).cfg = s.cfg := rfl
@[simp] theorem State.setDc_rom (m : DcMode) (s : State) : (s.setDc m).rom = s.rom := rfl
@[simp] theorem State.setDc_drv (m : DcMode) (s : State) : (s.setDc m).drv = s.drv := rfl
@[simp] theorem State.setDc_cs (m : DcMode) (s : State) : (s.setDc m).cs = s.cs := rfl
@[simp] theorem State.setDc_dc (m : DcMode) (s : State) : (s.setDc m).dc = some m := rfl
@[simp] theorem State.setDc_rst (m : DcMode) (s : State) : (s.setDc m).rst = s.rst := rfl
@[simp] theorem State.setDc_ser (m : DcMode) (s : State) : (s.setDc m).ser = s.ser := rfl
@[simp] theorem State.setDc_mode (m : DcMode) (s : State) : (s.setDc m).mode = s.mode := rfl
@[simp] theorem State.setDc_phase (m : DcMode) (s : State) : (s.setDc m).phase = s.phase := rfl
@[simp] theorem State.setDc_status (m : DcMode) (s : State) : (s.setDc m).status = s.status := rfl
@[simp] theorem State.setDc_warnCnt (m : DcMode) (s : State) : (s.setDc m).warnCnt = s.warnCnt := rfl
@[simp] theorem State.setDc_prog (m : DcMode) (s : State) : (s.setDc m).prog = s.prog := rfl
@[simp] theorem State.setDc_upc (m : DcMode) (s : State) : (s.setDc m).upc = s.upc := rfl
@[simp] theorem State.setDc_dcFresh (m : DcMode) (s : State) : (s.setDc m).dcFresh = s.dcFresh := rfl
@[simp] theorem State.setDc_bcnt (m : DcMode) (s : State) : (s.setDc m).bcnt = s.bcnt := rfl
@[simp] theorem State.setDc_ccnt (m : DcMode) (s : State) : (s.setDc m).ccnt = s.ccnt := rfl
@[simp] theorem State.setDc_pcnt (m : DcMode) (s : State) : (s.setDc m).pcnt = s.pcnt := rfl
@[simp] theorem State.setDc_len (m : DcMode) (s : State) : (s.setDc m).len = s.len := rfl
@[simp] theorem State.setDc_inWait (m : DcMode) (s : State) : (s.setDc m).inWait = s.inWait := rfl
@[simp] theorem State.setDc_tmr (m : DcMode) (s : State) : (s.setDc m).tmr = s.tmr := rfl
@[simp] theorem State.setDc_fb (m : DcMode) (s : State) : (s.setDc m).fb = s.fb := rfl
@[simp] theorem State.setDc_trace (m : DcMode) (s : State) : (s.setDc m).trace = s.trace ++ [.dcW m] := rfl
@[simp] theorem State.setDc_now (m : DcMode) (s : State) : (s.setDc m).now = s.now := rfl
@[simp] theorem State.setDc_pins (m : DcMode) (s : State) : (s.setDc m).pins = s.pins := rfl
@[simp] theorem State.setDc_draws (m : DcMode) (s : State) : (s.setDc m).draws = s.draws := rfl

/-! ### setRst -/

@[simp] theorem State.setRst_cfg (l : Level) (s : State) : (s.setRst l).cfg = s.cfg := rfl
@[simp] theorem State.setRst_rom (l : Level) (s : State) : (s.setRst l).rom = s.rom := rfl
@[simp] theorem State.setRst_drv (l : Level) (s : State) : (s.setRst l).drv = s.drv := rfl
@[simp] theorem State.setRst_cs (l : Level) (s : State) : (s.setRst l).cs = s.cs := rfl
@[simp] theorem State.setRst_dc (l : Level) (s : State) : (s.setRst l).dc = s.dc := rfl
@[simp] theorem State.setRst_rst (l : Level) (s : State) : (s.setRst l).rst = some l := rfl
@[simp] theorem State.setRst_ser (l : Level) (s : State) : (s.setRst l).ser = s.ser := rfl
@[simp] theorem State.setRst_mode (l : Level) (s : State) : (s.setRst l).mode = s.mode := rfl
@[simp] theorem State.setRst_phase (l : Level) (s : State) : (s.setRst l).phase = s.phase := rfl
@[simp] theorem State.setRst_status (l : Level) (s : State) : (s.setRst l).status = s.status := rfl
@[simp] theorem State.setRst_warnCnt (l : Level) (s : State) : (s.setRst l).warnCnt = s.warnCnt := rfl
@[simp] theorem State.setRst_prog (l : Level) (s : State) : (s.setRst l).prog = s.prog := rfl
@[simp] theorem State.setRst_upc (l : Level) (s : State) : (s.setRst l).upc = s.upc := rfl
@[simp] theorem State.setRst_dcFresh (l : Level) (s : State) : (s.setRst l).dcFresh = s.dcFresh := rfl
@[simp] theorem State.setRst_bcnt (l : Level) (s : State) : (s.setRst l).bcnt = s.bcnt := rfl
@[simp] theorem State.setRst_ccnt (l : Level) (s : State) : (s.setRst l).ccnt = s.ccnt := rfl
@[simp] theorem State.setRst_pcnt (l : Level) (s : State) : (s.setRst l).pcnt = s.pcnt := rfl
@[simp] theorem State.setRst_len (l : Level) (s : State) : (s.setRst l).len = s.len := rfl
@[simp] theorem State.setRst_inWait (l : Level) (s : State) : (s.setRst l).inWait = s.inWait := rfl
@[simp] theorem State.setRst_tmr (l : Level) (s : State) : (s.setRst l).tmr = s.tmr := rfl
@[simp] theorem State.setRst_fb (l : Level) (s : State) : (s.setRst l).fb = s.fb := rfl
@[simp] theorem State.setRst_trace (l : Level) (s : State) : (s.setRst l).trace = s.trace ++ [.rstW l] := rfl
@[simp] theorem State.setRst_now (l : Level) (s : State) : (s.setRst l).now = s.now := rfl
@[simp] theorem State.setRst_pins (l : Level) (s : State) : (s.setRst l).pins = s.pins := rfl
@[simp] theorem State.setRst_draws (l : Level) (s : State) : (s.setRst l).draws = s.draws := rfl

/-! ### setCs -/

@[simp] theorem State.setCs_cfg (l : Level) (s : State) : (s.setCs l).cfg = s.cfg := rfl
@[simp] theorem State.setCs_rom (l : Level) (s : State) : (s.setCs l).rom = s.rom := rfl
@[simp] theorem State.setCs_drv (l : Level) (s : State) : (s.setCs l).drv = s.drv := rfl
@[simp] theorem State.setCs_cs (l : Level) (s : State) : (s.setCs l).cs = some l := rfl
@[simp] theorem State.setCs_dc (l : Level) (s : State) : (s.setCs l).dc = s.dc := rfl
@[simp] theorem State.setCs_rst (l : Level) (s : State) : (s.setCs l).rst = s.rst := rfl
@[simp] theorem State.setCs_ser (l : Level) (s : State) : (s.setCs l).ser = s.ser := rfl
@[simp] theorem State.setCs_mode (l : Level) (s : State) : (s.setCs l).mode = s.mode := rfl
@[simp] theorem State.setCs_phase (l : Level) (s : State) : (s.setCs l).phase = s.phase := rfl
@[simp] theorem State.setCs_status (l : Level) (s : State) : (s.setCs l).status = s.status := rfl
@[simp] theorem State.setCs_warnCnt (l : Level) (s : State) : (s.setCs l).warnCnt = s.warnCnt := rfl
@[simp] theorem State.setCs_prog (l : Level) (s : State) : (s.setCs l).prog = s.prog := rfl
@[simp] theorem State.setCs_upc (l : Level) (s : State) : (s.setCs l).upc = s.upc := rfl
@[simp] theorem State.setCs_dcFresh (l : Level) (s : State) : (s.setCs l).dcFresh = s.dcFresh := rfl
@[simp] theorem State.setCs_bcnt (l : Level) (s : State) : (s.setCs l).bcnt = s.bcnt := rfl
@[simp] theorem State.setCs_ccnt (l : Level) (s : State) : (s.setCs l).ccnt = s.ccnt := rfl
@[simp] theorem State.setCs_pcnt (l : Level) (s : State) : (s.setCs l).pcnt = s.pcnt := rfl
@[simp] theorem State.setCs_len (l : Level) (s : State) : (s.setCs l).len = s.len := rfl
@[simp] theorem State.setCs_inWait (l : Level) (s : State) : (s.setCs l).inWait = s.inWait := rfl
@[simp] theorem State.setCs_tmr (l : Level) (s : State) : (s.setCs l).tmr = s.tmr := rfl
@[simp] theorem State.setCs_fb (l : Level) (s : State) : (s.setCs l).fb = s.fb := rfl
@[simp] theorem State.setCs_trace (l : Level) (s : State) : (s.setCs l).trace = s.trace ++ [.csW l] := rfl
@[simp] theorem State.setCs_now (l : Level) (s : State) : (s.setCs l).now = s.now := rfl
@[simp] theorem State.setCs_pins (l : Level) (s : State) : (s.setCs l).pins = s.pins := rfl
@[simp] theorem State.setCs_draws (l : Level) (s : State) : (s.setCs l).draws = s.draws := rfl

/-! ### setFresh -/

@[simp] theorem State.setFresh_cfg (s : State) : s.setFresh.cfg = s.cfg := rfl
@[simp] theorem State.setFresh_rom (s : State) : s.setFresh.rom = s.rom := rfl
@[simp] theorem State.setFresh_drv (s : State) : s.setFresh.drv = s.drv := rfl
@[simp] theorem State.setFresh_cs (s : State) : s.setFresh.cs = s.cs := rfl
@[simp] theorem State.setFresh_dc (s : State) : s.setFresh.dc = s.dc := rfl
@[simp] theorem State.setFresh_rst (s : State) : s.setFresh.rst = s.rst := rfl
@[simp] theorem State.setFresh_ser (s : State) : s.setFresh.ser = s.ser := rfl
@[simp] theorem State.setFresh_mode (s : State) : s.setFresh.mode = s.mode := rfl
@[simp] theorem State.setFresh_phase (s : State) : s.setFresh.phase = s.phase := rfl
@[simp] theorem State.setFresh_status (s : State) : s.setFresh.status = s.status := rfl
@[simp] theorem State.setFresh_warnCnt (s : State) : s.setFresh.warnCnt = s.warnCnt := rfl
@[simp] theorem State.setFresh_prog (s : State) : s.setFresh.prog = s.prog := rfl
@[simp] theorem State.setFresh_upc (s : State) : s.setFresh.upc = s.upc := rfl
@[simp] theorem State.setFresh_dcFresh (s : State) : s.setFresh.dcFresh = true := rfl
@[simp] theorem State.setFresh_bcnt (s : State) : s.setFresh.bcnt = s.bcnt := rfl
@[simp] theorem State.setFresh_ccnt (s : State) : s.setFresh.ccnt = s.ccnt := rfl
@[simp] theorem State.setFresh_pcnt (s : State) : s.setFresh.pcnt = s.pcnt := rfl
@[simp] theorem State.setFresh_len (s : State) : s.setFresh.len = s.len := rfl
@[simp] theorem State.setFresh_inWait (s : State) : s.setFresh.inWait = s.inWait := rfl
@[simp] theorem State.setFresh_tmr (s : State) : s.setFresh.tmr = s.tmr := rfl
@[simp] theorem State.setFresh_fb (s : State) : s.setFresh.fb = s.fb := rfl
@[simp] theorem State.setFresh_trace (s : State) : s.setFresh.trace = s.trace := rfl
@[simp] theorem State.setFresh_now (s : State) : s.setFresh.now = s.now := rfl
@[simp] theorem State.setFresh_pins (s : State) : s.setFresh.pins = s.pins := rfl
@[simp] theorem State.setFresh_draws (s : State) : s.setFresh.draws = s.draws := rfl

/-! ### clearFresh -/

@[simp] theorem State.clearFresh_cfg (s : State) : s.clearFresh.cfg = s.cfg := rfl
@[simp] theorem State.clearFresh_rom (s : State) : s.clearFresh.rom = s.rom := rfl
@[simp] theorem State.clearFresh_drv (s : State) : s.clearFresh.drv = s.drv := rfl
@[simp] theorem State.clearFresh_cs (s : State) : s.clearFresh.cs = s.cs := rfl
@[simp] theorem State.clearFresh_dc (s : State) : s.clearFresh.dc = s.dc := rfl
@[simp] theorem State.clearFresh_rst (s : State) : s.clearFresh.rst = s.rst := rfl
@[simp] theorem State.clearFresh_ser (s : State) : s.clearFresh.ser = s.ser := rfl
@[simp] theorem State.clearFresh_mode (s : State) : s.clearFresh.mode = s.mode := rfl
@[simp] theorem State.clearFresh_phase (s : State) : s.clearFresh.phase = s.phase := rfl
@[simp] theorem State.clearFresh_status (s : State) : s.clearFresh.status = s.status := rfl
@[simp] theorem State.clearFresh_warnCnt (s : State) : s.clearFresh.warnCnt = s.warnCnt := rfl
@[simp] theorem State.clearFresh_prog (s : State) : s.clearFresh.prog = s.prog := rfl
@[simp] theorem State.clearFresh_upc (s : State) : s.clearFresh.upc = s.upc := rfl
@[simp] theorem State.clearFresh_dcFresh (s : State) : s.clearFresh.dcFresh = false := rfl
@[simp] theorem State.clearFresh_bcnt (s : State) : s.clearFresh.bcnt = s.bcnt := rfl
@[simp] theorem State.clearFresh_ccnt (s : State) : s.clearFresh.ccnt = s.ccnt := rfl
@[simp] theorem State.clearFresh_pcnt (s : State) : s.clearFresh.pcnt = s.pcnt := rfl
@[simp] theorem State.clearFresh_len (s : State) : s.clearFresh.len = s.len := rfl
@[simp] theorem State.clearFresh_inWait (s : State) : s.clearFresh.inWait = s.inWait := rfl
@[simp] theorem State.clearFresh_tmr (s : State) : s.clearFresh.tmr = s.tmr := rfl
@[simp] theorem State.clearFresh_fb (s : State) : s.clearFresh.fb = s.fb := rfl
@[simp] theorem State.clearFresh_trace (s : State) : s.clearFresh.trace = s.trace := rfl
@[simp] theorem State.clearFresh_now (s : State) : s.clearFresh.now = s.now := rfl
@[simp] theorem State.clearFresh_pins (s : State) : s.clearFresh.pins = s.pins := rfl
@[simp] theorem State.clearFresh_draws (s : State) : s.clearFresh.draws = s.draws := rfl

/-! ### select -/

@[simp] theorem State.select_cfg (m : DcMode) (s : State) : (s.select m).cfg = s.cfg := rfl
@[simp] theorem State.select_rom (m : DcMode) (s : State) : (s.select m).rom = s.rom := rfl
@[simp] theorem State.select_drv (m : DcMode) (s : State) : (s.select m).drv = s.drv := rfl
@[simp] theorem State.select_cs (m : DcMode) (s : State) : (s.select m).cs = s.cs := rfl
@[simp] theorem State.select_dc (m : DcMode) (s : State) : (s.select m).dc = some m := rfl
@[simp] theorem State.select_rst (m : DcMode) (s : State) : (s.select m).rst = s.rst := rfl
@[simp] theorem State.select_ser (m : DcMode) (s : State) : (s.select m).ser = s.ser := rfl
@[simp] theorem State.select_mode (m : DcMode) (s : State) : (s.select m).mode = s.mode := rfl
@[simp] theorem State.select_phase (m : DcMode) (s : State) : (s.select m).phase = s.phase := rfl
@[simp] theorem State.select_status (m : DcMode) (s : State) : (s.select m).status = s.status := rfl
@[simp] theorem State.select_warnCnt (m : DcMode) (s : State) : (s.select m).warnCnt = s.warnCnt := rfl
@[simp] theorem State.select_prog (m : DcMode) (s : State) : (s.select m).prog = s.prog := rfl
@[simp] theorem State.select_upc (m : DcMode) (s : State) : (s.select m).upc = s.upc := rfl
@[simp] theorem State.select_dcFresh (m : DcMode) (s : State) : (s.select m).dcFresh = true := rfl
@[simp] theorem State.select_bcnt (m : DcMode) (s : State) : (s.select m).bcnt = s.bcnt := rfl
@[simp] theorem State.select_ccnt (m : DcMode) (s : State) : (s.select m).ccnt = s.ccnt := rfl
@[simp] theorem State.select_pcnt (m : DcMode) (s : State) : (s.select m).pcnt = s.pcnt := rfl
@[simp] theorem State.select_len (m : DcMode) (s : State) : (s.select m).len = s.len := rfl
@[simp] theorem State.select_inWait (m : DcMode) (s : State) : (s.select m).inWait = s.inWait := rfl
@[simp] theorem State.select_tmr (m : DcMode) (s : State) : (s.select m).tmr = s.tmr := rfl
@[simp] theorem State.select_fb (m : DcMode) (s : State) : (s.select m).fb = s.fb := rfl
@[simp] theorem State.select_trace (m : DcMode) (s : State) : (s.select m).trace = s.trace ++ [.dcW m] := rfl
@[simp] theorem State.select_now (m : DcMode) (s : State) : (s.select m).now = s.now := rfl
@[simp] theorem State.select_pins (m : DcMode) (s : State) : (s.select m).pins = s.pins := rfl
@[simp] theorem State.select_draws (m : DcMode) (s : State) : (s.select m).draws = s.draws := rfl

/-! ### transfer -/

@[simp] theorem State.transfer_cfg (v : Byte) (s : State) : (s.transfer v).cfg = s.cfg := rfl
@[simp] theorem State.transfer_rom (v : Byte) (s : State) : (s.transfer v).rom = s.rom := rfl
@[simp] theorem State.transfer_drv (v : Byte) (s : State) : (s.transfer v).drv = s.drv := rfl
@[simp] theorem State.transfer_cs (v : Byte) (s : State) : (s.transfer v).cs = some .high := rfl
@[simp] theorem State.transfer_dc (v : Byte) (s : State) : (s.transfer v).dc = s.dc := rfl
@[simp] theorem State.transfer_rst (v : Byte) (s : State) : (s.transfer v).rst = s.rst := rfl
@[simp] theorem State.transfer_ser (v : Byte) (s : State) : (s.transfer v).ser = s.ser.shiftOut v := rfl
@[simp] theorem State.transfer_mode (v : Byte) (s : State) : (s.transfer v).mode = s.mode := rfl
@[simp] theorem State.transfer_phase (v : Byte) (s : State) : (s.transfer v).phase = s.phase := rfl
@[simp] theorem State.transfer_status (v : Byte) (s : State) : (s.transfer v).status = s.status := rfl
@[simp] theorem State.transfer_warnCnt (v : Byte) (s : State) : (s.transfer v).warnCnt = s.warnCnt := rfl
@[simp] theorem State.transfer_prog (v : Byte) (s : State) : (s.transfer v).prog = s.prog := rfl
@[simp] theorem State.transfer_upc (v : Byte) (s : State) : (s.transfer v).upc = s.upc := rfl
@[simp] theorem State.transfer_dcFresh (v : Byte) (s : State) : (s.transfer v).dcFresh = false := rfl
@[simp] theorem State.transfer_bcnt (v : Byte) (s : State) : (s.transfer v).bcnt = s.bcnt := rfl
@[simp] theorem State.transfer_ccnt (v : Byte) (s : State) : (s.transfer v).ccnt = s.ccnt := rfl
@[simp] theorem State.transfer_pcnt (v : Byte) (s : State) : (s.transfer v).pcnt = s.pcnt := rfl
@[simp] theorem State.transfer_len (v : Byte) (s : State) : (s.transfer v).len = s.len := rfl
@[simp] theorem State.transfer_inWait (v : Byte) (s : State) : (s.transfer v).inWait = s.inWait := rfl
@[simp] theorem State.transfer_tmr (v : Byte) (s : State) : (s.transfer v).tmr = s.tmr := rfl
@[simp] theorem State.transfer_fb (v : Byte) (s : State) : (s.transfer v).fb = s.fb := rfl
@[simp] theorem State.transfer_trace (v : Byte) (s : State) : (s.transfer v).trace = s.trace ++ [.csW .low, .byte v, .csW .high] := by
  simp [State.transfer, State.setCs, State.emit, State.clearFresh]
@[simp] theorem State.transfer_now (v : Byte) (s : State) : (s.transfer v).now = s.now := rfl
@[simp] theorem State.transfer_pins (v : Byte) (s : State) : (s.transfer v).pins = s.pins := rfl
@[simp] theorem State.transfer_draws (v : Byte) (s : State) : (s.transfer v).draws = s.draws := rfl

/-! ### sendFrame -/

@[simp] theorem State.sendFrame_cfg (f : Frame) (s : State) : (s.sendFrame f).cfg = s.cfg := rfl
@[simp] theorem State.sendFrame_rom (f : Frame) (s : State) : (s.sendFrame f).rom = s.rom := rfl
@[simp] theorem State.sendFrame_drv (f : Frame) (s : State) : (s.sendFrame f).drv = s.drv := rfl
@[simp] theorem State.sendFrame_cs (f : Frame) (s : State) : (s.sendFrame f).cs = some .high := rfl
@[simp] theorem State.sendFrame_dc (f : Frame) (s : State) : (s.sendFrame f).dc = some f.1 := rfl
@[simp] theorem State.sendFrame_rst (f : Frame) (s : State) : (s.sendFrame f).rst = s.rst := rfl
@[simp] theorem State.sendFrame_ser (f : Frame) (s : State) : (s.sendFrame f).ser = s.ser.shiftOut f.2 := rfl
@[simp] theorem State.sendFrame_mode (f : Frame) (s : State) : (s.sendFrame f).mode = s.mode := rfl
@[simp] theorem State.sendFrame_phase (f : Frame) (s : State) : (s.sendFrame f).phase = s.phase := rfl
@[simp] theorem State.sendFrame_status (f : Frame) (s : State) : (s.sendFrame f).status = s.status := rfl
@[simp] theorem State.sendFrame_warnCnt (f : Frame) (s : State) : (s.sendFrame f).warnCnt = s.warnCnt := rfl
@[simp] theorem State.sendFrame_prog (f : Frame) (s : State) : (s.sendFrame f).prog = s.prog := rfl
@[simp] theorem State.sendFrame_upc (f : Frame) (s : State) : (s.sendFrame f).upc = s.upc := rfl
@[simp] theorem State.sendFrame_dcFresh (f : Frame) (s : State) : (s.sendFrame f).dcFresh = false := rfl
@[simp] theorem State.sendFrame_bcnt (f : Frame) (s : State) : (s.sendFrame f).bcnt = s.bcnt := rfl
@[simp] theorem State.sendFrame_ccnt (f : Frame) (s : State) : (s.sendFrame f).ccnt = s.ccnt := rfl
@[simp] theorem State.sendFrame_pcnt (f : Frame) (s : State) : (s.sendFrame f).pcnt = s.pcnt := rfl
@[simp] theorem State.sendFrame_len (f : Frame) (s : State) : (s.sendFrame f).len = s.len := rfl
@[simp] theorem State.sendFrame_inWait (f : Frame) (s : State) : (s.sendFrame f).inWait = s.inWait := rfl
@[simp] theorem State.sendFrame_tmr (f : Frame) (s : State) : (s.sendFrame f).tmr = s.tmr := rfl
@[simp] theorem State.sendFrame_fb (f : Frame) (s : State) : (s.sendFrame f).fb = s.fb := rfl
@[simp] theorem State.sendFrame_trace (f : Frame) (s : State) : (s.sendFrame f).trace = s.trace ++ [.dcW f.1, .csW .low, .byte f.2, .csW .high] := by
  simp [State.sendFrame, State.select, State.setDc, State.setFresh, State.transfer, State.setCs, State.emit, State.clearFresh]
@[simp] theorem State.sendFrame_now (f : Frame) (s : State) : (s.sendFrame f).now = s.now := rfl
@[simp] theorem State.sendFrame_pins (f : Frame) (s : State) : (s.sendFrame f).pins = s.pins := rfl
@[simp] theorem State.sendFrame_draws (f : Frame) (s : State) : (s.sendFrame f).draws = s.draws := rfl

/-! ### hold -/

@[simp] theorem State.hold_cfg (d : Nat) (s : State) : (s.hold d).cfg = s.cfg := rfl
@[simp] theorem State.hold_rom (d : Nat) (s : State) : (s.hold d).rom = s.rom := rfl
@[simp] theorem State.hold_drv (d : Nat) (s : State) : (s.hold d).drv = s.drv := rfl
@[simp] theorem State.hold_cs (d : Nat) (s : State) : (s.hold d).cs = s.cs := rfl
@[simp] theorem State.hold_dc (d : Nat) (s : State) : (s.hold d).dc = s.dc := rfl
@[simp] theorem State.hold_rst (d : Nat) (s : State) : (s.hold d).rst = s.rst := rfl
@[simp] theorem State.hold_ser (d : Nat) (s : State) : (s.hold d).ser = s.ser := rfl
@[simp] theorem State.hold_mode (d : Nat) (s : State) : (s.hold d).mode = s.mode := rfl
@[simp] theorem State.hold_phase (d : Nat) (s : State) : (s.hold d).phase = s.phase := rfl
@[simp] theorem State.hold_status (d : Nat) (s : State) : (s.hold d).status = s.status := rfl
@[simp] theorem State.hold_warnCnt (d : Nat) (s : State) : (s.hold d).warnCnt = s.warnCnt := rfl
@[simp] theorem State.hold_prog (d : Nat) (s : State) : (s.hold d).prog = s.prog := rfl
@[simp] theorem State.hold_upc (d : Nat) (s : State) : (s.hold d).upc = s.upc := rfl
@[simp] theorem State.hold_dcFresh (d : Nat) (s : State) : (s.hold d).dcFresh = s.dcFresh := rfl
@[simp] theorem State.hold_bcnt (d : Nat) (s : State) : (s.hold d).bcnt = s.bcnt := rfl
@[simp] theorem State.hold_ccnt (d : Nat) (s : State) : (s.hold d).ccnt = s.ccnt := rfl
@[simp] theorem State.hold_pcnt (d : Nat) (s : State) : (s.hold d).pcnt = s.pcnt := rfl
@[simp] theorem State.hold_len (d : Nat) (s : State) : (s.hold d).len = s.len := rfl
@[simp] theorem State.hold_inWait (d : Nat) (s : State) : (s.hold d).inWait = s.inWait := rfl
@[simp] theorem State.hold_tmr (d : Nat) (s : State) : (s.hold d).tmr = 0 := rfl
@[simp] theorem State.hold_fb (d : Nat) (s : State) : (s.hold d).fb = s.fb := rfl
@[simp] theorem State.hold_trace (d : Nat) (s : State) : (s.hold d).trace = s.trace ++ [.wait d] := rfl
@[simp] theorem State.hold_now (d : Nat) (s : State) : (s.hold d).now = s.now + d + freeExcess s.draws := rfl
@[simp] theorem State.hold_pins (d : Nat) (s : State) : (s.hold d).pins = s.pins := rfl
@[simp] theorem State.hold_draws (d : Nat) (s : State) : (s.hold d).draws = s.draws + 1 := rfl

/-! ### pause -/

@[simp] theorem State.pause_cfg (s : State) : s.pause.cfg = s.cfg := rfl
@[simp] theorem State.pause_rom (s : State) : s.pause.rom = s.rom := rfl
@[simp] theorem State.pause_drv (s : State) : s.pause.drv = s.drv := rfl
@[simp] theorem State.pause_cs (s : State) : s.pause.cs = s.cs := rfl
@[simp] theorem State.pause_dc (s : State) : s.pause.dc = s.dc := rfl
@[simp] theorem State.pause_rst (s : State) : s.pause.rst = s.rst := rfl
@[simp] theorem State.pause_ser (s : State) : s.pause.ser = s.ser := rfl
@[simp] theorem State.pause_mode (s : State) : s.pause.mode = s.mode := rfl
@[simp] theorem State.pause_phase (s : State) : s.pause.phase = s.phase := rfl
@[simp] theorem State.pause_status (s : State) : s.pause.status = s.status := rfl
@[simp] theorem State.pause_warnCnt (s : State) : s.pause.warnCnt = s.warnCnt := rfl
@[simp] theorem State.pause_prog (s : State) : s.pause.prog = s.prog := rfl
@[simp] theorem State.pause_upc (s : State) : s.pause.upc = s.upc := rfl
@[simp] theorem State.pause_dcFresh (s : State) : s.pause.dcFresh = s.dcFresh := rfl
@[simp] theorem State.pause_bcnt (s : State) : s.pause.bcnt = s.bcnt := rfl
@[simp] theorem State.pause_ccnt (s : State) : s.pause.ccnt = s.ccnt := rfl
@[simp] theorem State.pause_pcnt (s : State) : s.pause.pcnt = s.pcnt := rfl
@[simp] theorem State.pause_len (s : State) : s.pause.len = s.len := rfl
@[simp] theorem State.pause_inWait (s : State) : s.pause.inWait = s.inWait := rfl
@[simp] theorem State.pause_tmr (s : State) : s.pause.tmr = 0 := rfl
@[simp] theorem State.pause_fb (s : State) : s.pause.fb = s.fb := rfl
@[simp] theorem State.pause_trace (s : State) : s.pause.trace = s.trace ++ [.yield] := rfl
@[simp] theorem State.pause_now (s : State) : s.pause.now = s.now + freeInterval s.draws := rfl
@[simp] theorem State.pause_pins (s : State) : s.pause.pins = s.pins := rfl
@[simp] theorem State.pause_draws (s : State) : s.pause.draws = s.draws + 1 := rfl

/-! ### beginProgram -/

@[simp] theorem State.beginProgram_cfg (p : Prog) (s : State) : (s.beginProgram p).cfg = s.cfg := rfl
@[simp] theorem State.beginProgram_rom (p : Prog) (s : State) : (s.beginProgram p).rom = s.rom := rfl
@[simp] theorem State.beginProgram_drv (p : Prog) (s : State) : (s.beginProgram p).drv = s.drv := rfl
@[simp] theorem State.beginProgram_cs (p : Prog) (s : State) : (s.beginProgram p).cs = s.cs := rfl
@[simp] theorem State.beginProgram_dc (p : Prog) (s : State) : (s.beginProgram p).dc = s.dc := rfl
@[simp] theorem State.beginProgram_rst (p : Prog) (s : State) : (s.beginProgram p).rst = s.rst := rfl
@[simp] theorem State.beginProgram_ser (p : Prog) (s : State) : (s.beginProgram p).ser = s.ser := rfl
@[simp] theorem State.beginProgram_mode (p : Prog) (s : State) : (s.beginProgram p).mode = s.mode := rfl
@[simp] theorem State.beginProgram_phase (p : Prog) (s : State) : (s.beginProgram p).phase = p.firstPhase := rfl
@[simp] theorem State.beginProgram_status (p : Prog) (s : State) : (s.beginProgram p).status = s.status := rfl
@[simp] theorem State.beginProgram_warnCnt (p : Prog) (s : State) : (s.beginProgram p).warnCnt = s.warnCnt := rfl
@[simp] theorem State.beginProgram_prog (p : Prog) (s : State) : (s.beginProgram p).prog = some p := rfl
@[simp] theorem State.beginProgram_upc (p : Prog) (s : State) : (s.beginProgram p).upc = 0 := rfl
@[simp] theorem State.beginProgram_dcFresh (p : Prog) (s : State) : (s.beginProgram p).dcFresh = s.dcFresh := rfl
@[simp] theorem State.beginProgram_bcnt (p : Prog) (s : State) : (s.beginProgram p).bcnt = s.bcnt := rfl
@[simp] theorem State.beginProgram_ccnt (p : Prog) (s : State) : (s.beginProgram p).ccnt = s.ccnt := rfl
@[simp] theorem State.beginProgram_pcnt (p : Prog) (s : State) : (s.beginProgram p).pcnt = s.pcnt := rfl
@[simp] theorem State.beginProgram_len (p : Prog) (s : State) : (s.beginProgram p).len = s.len := rfl
@[simp] theorem State.beginProgram_inWait (p : Prog) (s : State) : (s.beginProgram p).inWait = false := rfl
@[simp] theorem State.beginProgram_tmr (p : Prog) (s : State) : (s.beginProgram p).tmr = s.tmr := rfl
@[simp] theorem State.beginProgram_fb (p : Prog) (s : State) : (s.beginProgram p).fb = s.fb := rfl
@[simp] theorem State.beginProgram_trace (p : Prog) (s : State) : (s.beginProgram p).trace = s.trace := rfl
@[simp] theorem State.beginProgram_now (p : Prog) (s : State) : (s.beginProgram p).now = s.now := rfl
@[simp] theorem State.beginProgram_pins (p : Prog) (s : State) : (s.beginProgram p).pins = s.pins := rfl
@[simp] theorem State.beginProgram_draws (p : Prog) (s : State) : (s.beginProgram p).draws = s.draws := rfl

/-! ### finish -/

@[simp] theorem State.finish_cfg (op : HostOp) (st : Status) (s : State) : (s.finish op st).cfg = s.cfg := rfl
@[simp] theorem State.finish_rom (op : HostOp) (st : Status) (s : State) : (s.finish op st).rom = s.rom := rfl
@[simp] theorem State.finish_drv (op : HostOp) (st : Status) (s : State) : (s.finish op st).drv = s.drv := rfl
@[simp] theorem State.finish_cs (op : HostOp) (st : Status) (s : State) : (s.finish op st).cs = s.cs := rfl
@[simp] theorem State.finish_dc (op : HostOp) (st : Status) (s : State) : (s.finish op st).dc = s.dc := rfl
@[simp] theorem State.finish_rst (op : HostOp) (st : Status) (s : State) : (s.finish op st).rst = s.rst := rfl
@[simp] theorem State.finish_ser (op : HostOp) (st : Status) (s : State) : (s.finish op st).ser = s.ser := rfl
@[simp] theorem State.finish_mode (op : HostOp) (st : Status) (s : State) : (s.finish op st).mode = s.mode := rfl
@[simp] theorem State.finish_phase (op : HostOp) (st : Status) (s : State) : (s.finish op st).phase = .idle := rfl
@[simp] theorem State.finish_status (op : HostOp) (st : Status) (s : State) : (s.finish op st).status = st := rfl
@[simp] theorem State.finish_warnCnt (op : HostOp) (st : Status) (s : State) : (s.finish op st).warnCnt = s.warnCnt := rfl
@[simp] theorem State.finish_prog (op : HostOp) (st : Status) (s : State) : (s.finish op st).prog = none := rfl
@[simp] theorem State.finish_upc (op : HostOp) (st : Status) (s : State) : (s.finish op st).upc = 0 := rfl
@[simp] theorem State.finish_dcFresh (op : HostOp) (st : Status) (s : State) : (s.finish op st).dcFresh = s.dcFresh := rfl
@[simp] theorem State.finish_bcnt (op : HostOp) (st : Status) (s : State) : (s.finish op st).bcnt = s.bcnt := rfl
@[simp] theorem State.finish_ccnt (op : HostOp) (st : Status) (s : State) : (s.finish op st).ccnt = s.ccnt := rfl
@[simp] theorem State.finish_pcnt (op : HostOp) (st : Status) (s : State) : (s.finish op st).pcnt = s.pcnt := rfl
@[simp] theorem State.finish_len (op : HostOp) (st : Status) (s : State) : (s.finish op st).len = s.len := rfl
@[simp] theorem State.finish_inWait (op : HostOp) (st : Status) (s : State) : (s.finish op st).inWait = false := rfl
@[simp] theorem State.finish_tmr (op : HostOp) (st : Status) (s : State) : (s.finish op st).tmr = s.tmr := rfl
@[simp] theorem State.finish_fb (op : HostOp) (st : Status) (s : State) : (s.finish op st).fb = [] := rfl
@[simp] theorem State.finish_trace (op : HostOp) (st : Status) (s : State) : (s.finish op st).trace = s.trace ++ [.done op st] := rfl
@[simp] theorem State.finish_now (op : HostOp) (st : Status) (s : State) : (s.finish op st).now = s.now := rfl
@[simp] theorem State.finish_pins (op : HostOp) (st : Status) (s : State) : (s.finish op st).pins = s.pins := rfl
@[simp] theorem State.finish_draws (op : HostOp) (st : Status) (s : State) : (s.finish op st).draws = s.draws := rfl

/-! ### abort -/

@[simp] theorem State.abort_cfg (op : HostOp) (st : Status) (s : State) : (s.abort op st).cfg = s.cfg := rfl
@[simp] theorem State.abort_rom (op : HostOp) (st : Status) (s : State) : (s.abort op st).rom = s.rom := rfl
@[simp] theorem State.abort_drv (op : HostOp) (st : Status) (s : State) : (s.abort op st).drv = s.drv := rfl
@[simp] theorem State.abort_cs (op : HostOp) (st : Status) (s : State) : (s.abort op st).cs = s.cs := rfl
@[simp] theorem State.abort_dc (op : HostOp) (st : Status) (s : State) : (s.abort op st).dc = s.dc := rfl
@[simp] theorem State.abort_rst (op : HostOp) (st : Status) (s : State) : (s.abort op st).rst = s.rst := rfl
@[simp] theorem State.abort_ser (op : HostOp) (st : Status) (s : State) : (s.abort op st).ser = s.ser := rfl
@[simp] theorem State.abort_mode (op : HostOp) (st : Status) (s : State) : (s.abort op st).mode = .unconfigured := rfl
@[simp] theorem State.abort_phase (op : HostOp) (st : Status) (s : State) : (s.abort op st).phase = .idle := rfl
@[simp] theorem State.abort_status (op : HostOp) (st : Status) (s : State) : (s.abort op st).status = st := rfl
@[simp] theorem State.abort_warnCnt (op : HostOp) (st : Status) (s : State) : (s.abort op st).warnCnt = s.warnCnt := rfl
@[simp] theorem State.abort_prog (op : HostOp) (st : Status) (s : State) : (s.abort op st).prog = none := rfl
@[simp] theorem State.abort_upc (op : HostOp) (st : Status) (s : State) : (s.abort op st).upc = 0 := rfl
@[simp] theorem State.abort_dcFresh (op : HostOp) (st : Status) (s : State) : (s.abort op st).dcFresh = s.dcFresh := rfl
@[simp] theorem State.abort_bcnt (op : HostOp) (st : Status) (s : State) : (s.abort op st).bcnt = s.bcnt := rfl
@[simp] theorem State.abort_ccnt (op : HostOp) (st : Status) (s : State) : (s.abort op st).ccnt = s.ccnt := rfl
@[simp] theorem State.abort_pcnt (op : HostOp) (st : Status) (s : State) : (s.abort op st).pcnt = s.pcnt := rfl
@[simp] theorem State.abort_len (op : HostOp) (st : Status) (s : State) : (s.abort op st).len = s.len := rfl
@[simp] theorem State.abort_inWait (op : HostOp) (st : Status) (s : State) : (s.abort op st).inWait = false := rfl
@[simp] theorem State.abort_tmr (op : HostOp) (st : Status) (s : State) : (s.abort op st).tmr = s.tmr := rfl
@[simp] theorem State.abort_fb (op : HostOp) (st : Status) (s : State) : (s.abort op st).fb = [] := rfl
@[simp] theorem State.abort_trace (op : HostOp) (st : Status) (s : State) : (s.abort op st).trace = s.trace ++ [.done op st] := rfl
@[simp] theorem State.abort_now (op : HostOp) (st : Status) (s : State) : (s.abort op st).now = s.now := rfl
@[simp] theorem State.abort_pins (op : HostOp) (st : Status) (s : State) : (s.abort op st).pins = s.pins := rfl
@[simp] theorem State.abort_draws (op : HostOp) (st : Status) (s : State) : (s.abort op st).draws = s.draws := rfl

/-! ### reject -/

@[simp] theorem State.reject_cfg (op : HostOp) (st : Status) (s : State) : (s.reject op st).cfg = s.cfg := rfl
@[simp] theorem State.reject_rom (op : HostOp) (st : Status) (s : State) : (s.reject op st).rom = s.rom := rfl
@[simp] theorem State.reject_drv (op : HostOp) (st : Status) (s : State) : (s.reject op st).drv = s.drv := rfl
@[simp] theorem State.reject_cs (op : HostOp) (st : Status) (s : State) : (s.reject op st).cs = s.cs := rfl
@[simp] theorem State.reject_dc (op : HostOp) (st : Status) (s : State) : (s.reject op st).dc = s.dc := rfl
@[simp] theorem State.reject_rst (op : HostOp) (st : Status) (s : State) : (s.reject op st).rst = s.rst := rfl
@[simp] theorem State.reject_ser (op : HostOp) (st : Status) (s : State) : (s.reject op st).ser = s.ser := rfl
@[simp] theorem State.reject_mode (op : HostOp) (st : Status) (s : State) : (s.reject op st).mode = s.mode := rfl
@[simp] theorem State.reject_phase (op : HostOp) (st : Status) (s : State) : (s.reject op st).phase = s.phase := rfl
@[simp] theorem State.reject_status (op : HostOp) (st : Status) (s : State) : (s.reject op st).status = st := rfl
@[simp] theorem State.reject_warnCnt (op : HostOp) (st : Status) (s : State) : (s.reject op st).warnCnt = s.warnCnt := rfl
@[simp] theorem State.reject_prog (op : HostOp) (st : Status) (s : State) : (s.reject op st).prog = s.prog := rfl
@[simp] theorem State.reject_upc (op : HostOp) (st : Status) (s : State) : (s.reject op st).upc = s.upc := rfl
@[simp] theorem State.reject_dcFresh (op : HostOp) (st : Status) (s : State) : (s.reject op st).dcFresh = s.dcFresh := rfl
@[simp] theorem State.reject_bcnt (op : HostOp) (st : Status) (s : State) : (s.reject op st).bcnt = s.bcnt := rfl
@[simp] theorem State.reject_ccnt (op : HostOp) (st : Status) (s : State) : (s.reject op st).ccnt = s.ccnt := rfl
@[simp] theorem State.reject_pcnt (op : HostOp) (st : Status) (s : State) : (s.reject op st).pcnt = s.pcnt := rfl
@[simp] theorem State.reject_len (op : HostOp) (st : Status) (s : State) : (s.reject op st).len = s.len := rfl
@[simp] theorem State.reject_inWait (op : HostOp) (st : Status) (s : State) : (s.reject op st).inWait = s.inWait := rfl
@[simp] theorem State.reject_tmr (op : HostOp) (st : Status) (s : State) : (s.reject op st).tmr = s.tmr := rfl
@[simp] theorem State.reject_fb (op : HostOp) (st : Status) (s : State) : (s.reject op st).fb = s.fb := rfl
@[simp] theorem State.reject_trace (op : HostOp) (st : Status) (s : State) : (s.reject op st).trace = s.trace ++ [.done op st] := rfl
@[simp] theorem State.reject_now (op : HostOp) (st : Status) (s : State) : (s.reject op st).now = s.now := rfl
@[simp] theorem State.reject_pins (op : HostOp) (st : Status) (s : State) : (s.reject op st).pins = s.pins := rfl
@[simp] theorem State.reject_draws (op : HostOp) (st : Status) (s : State) : (s.reject op st).draws = s.draws := rfl

/-! ### configureBus -/

@[simp] theorem State.configureBus_cfg (s : State) : s.configureBus.cfg = s.cfg := rfl
@[simp] theorem State.configureBus_rom (s : State) : s.configureBus.rom = s.rom := rfl
@[simp] theorem State.configureBus_drv (s : State) : s.configureBus.drv = true := rfl
@[simp] theorem State.configureBus_cs (s : State) : s.configureBus.cs = some .high := rfl
@[simp] theorem State.configureBus_dc (s : State) : s.configureBus.dc = s.dc := rfl
@[simp] theorem State.configureBus_rst (s : State) : s.configureBus.rst = s.rst := rfl
@[simp] theorem State.configureBus_ser (s : State) : s.configureBus.ser = s.ser.configured := rfl
@[simp] theorem State.configureBus_mode (s : State) : s.configureBus.mode = s.mode := rfl
@[simp] theorem State.configureBus_phase (s : State) : s.configureBus.phase = s.phase := rfl
@[simp] theorem State.configureBus_status (s : State) : s.configureBus.status = s.status := rfl
@[simp] theorem State.configureBus_warnCnt (s : State) : s.configureBus.warnCnt = s.warnCnt := rfl
@[simp] theorem State.configureBus_prog (s : State) : s.configureBus.prog = s.prog := rfl
@[simp] theorem State.configureBus_upc (s : State) : s.configureBus.upc = s.upc := rfl
@[simp] theorem State.configureBus_dcFresh (s : State) : s.configureBus.dcFresh = s.dcFresh := rfl
@[simp] theorem State.configureBus_bcnt (s : State) : s.configureBus.bcnt = s.bcnt := rfl
@[simp] theorem State.configureBus_ccnt (s : State) : s.configureBus.ccnt = s.ccnt := rfl
@[simp] theorem State.configureBus_pcnt (s : State) : s.configureBus.pcnt = s.pcnt := rfl
@[simp] theorem State.configureBus_len (s : State) : s.configureBus.len = s.len := rfl
@[simp] theorem State.configureBus_inWait (s : State) : s.configureBus.inWait = s.inWait := rfl
@[simp] theorem State.configureBus_tmr (s : State) : s.configureBus.tmr = s.tmr := rfl
@[simp] theorem State.configureBus_fb (s : State) : s.configureBus.fb = s.fb := rfl
@[simp] theorem State.configureBus_trace (s : State) : s.configureBus.trace = s.trace ++ [.cfg, .csW .high] := by
  simp [State.configureBus, State.setCs, State.emit]
@[simp] theorem State.configureBus_now (s : State) : s.configureBus.now = s.now := rfl
@[simp] theorem State.configureBus_pins (s : State) : s.configureBus.pins = s.pins := rfl
@[simp] theorem State.configureBus_draws (s : State) : s.configureBus.draws = s.draws := rfl

/-! ### warn -/

@[simp] theorem State.warn_cfg (ws : List Nibble) (s : State) : (s.warn ws).cfg = s.cfg := rfl
@[simp] theorem State.warn_rom (ws : List Nibble) (s : State) : (s.warn ws).rom = s.rom := rfl
@[simp] theorem State.warn_drv (ws : List Nibble) (s : State) : (s.warn ws).drv = s.drv := rfl
@[simp] theorem State.warn_cs (ws : List Nibble) (s : State) : (s.warn ws).cs = s.cs := rfl
@[simp] theorem State.warn_dc (ws : List Nibble) (s : State) : (s.warn ws).dc = s.dc := rfl
@[simp] theorem State.warn_rst (ws : List Nibble) (s : State) : (s.warn ws).rst = s.rst := rfl
@[simp] theorem State.warn_ser (ws : List Nibble) (s : State) : (s.warn ws).ser = s.ser := rfl
@[simp] theorem State.warn_mode (ws : List Nibble) (s : State) : (s.warn ws).mode = s.mode := rfl
@[simp] theorem State.warn_phase (ws : List Nibble) (s : State) : (s.warn ws).phase = s.phase := rfl
@[simp] theorem State.warn_status (ws : List Nibble) (s : State) : (s.warn ws).status = s.status := rfl
@[simp] theorem State.warn_warnCnt (ws : List Nibble) (s : State) : (s.warn ws).warnCnt = s.warnCnt + ws.length := rfl
@[simp] theorem State.warn_prog (ws : List Nibble) (s : State) : (s.warn ws).prog = s.prog := rfl
@[simp] theorem State.warn_upc (ws : List Nibble) (s : State) : (s.warn ws).upc = s.upc := rfl
@[simp] theorem State.warn_dcFresh (ws : List Nibble) (s : State) : (s.warn ws).dcFresh = s.dcFresh := rfl
@[simp] theorem State.warn_bcnt (ws : List Nibble) (s : State) : (s.warn ws).bcnt = s.bcnt := rfl
@[simp] theorem State.warn_ccnt (ws : List Nibble) (s : State) : (s.warn ws).ccnt = s.ccnt := rfl
@[simp] theorem State.warn_pcnt (ws : List Nibble) (s : State) : (s.warn ws).pcnt = s.pcnt := rfl
@[simp] theorem State.warn_len (ws : List Nibble) (s : State) : (s.warn ws).len = s.len := rfl
@[simp] theorem State.warn_inWait (ws : List Nibble) (s : State) : (s.warn ws).inWait = s.inWait := rfl
@[simp] theorem State.warn_tmr (ws : List Nibble) (s : State) : (s.warn ws).tmr = s.tmr := rfl
@[simp] theorem State.warn_fb (ws : List Nibble) (s : State) : (s.warn ws).fb = s.fb := rfl
@[simp] theorem State.warn_trace (ws : List Nibble) (s : State) : (s.warn ws).trace = s.trace ++ ws.map .warn := rfl
@[simp] theorem State.warn_now (ws : List Nibble) (s : State) : (s.warn ws).now = s.now := rfl
@[simp] theorem State.warn_pins (ws : List Nibble) (s : State) : (s.warn ws).pins = s.pins := rfl
@[simp] theorem State.warn_draws (ws : List Nibble) (s : State) : (s.warn ws).draws = s.draws := rfl

/-! ### sample -/

@[simp] theorem State.sample_cfg (s : State) : s.sample.cfg = s.cfg := rfl
@[simp] theorem State.sample_rom (s : State) : s.sample.rom = s.rom := rfl
@[simp] theorem State.sample_drv (s : State) : s.sample.drv = s.drv := rfl
@[simp] theorem State.sample_cs (s : State) : s.sample.cs = s.cs := rfl
@[simp] theorem State.sample_dc (s : State) : s.sample.dc = s.dc := rfl
@[simp] theorem State.sample_rst (s : State) : s.sample.rst = s.rst := rfl
@[simp] theorem State.sample_ser (s : State) : s.sample.ser = s.ser := rfl
@[simp] theorem State.sample_mode (s : State) : s.sample.mode = s.mode := rfl
@[simp] theorem State.sample_phase (s : State) : s.sample.phase = s.phase := rfl
@[simp] theorem State.sample_status (s : State) : s.sample.status = s.status := rfl
@[simp] theorem State.sample_warnCnt (s : State) : s.sample.warnCnt = s.warnCnt := rfl
@[simp] theorem State.sample_prog (s : State) : s.sample.prog = s.prog := rfl
@[simp] theorem State.sample_upc (s : State) : s.sample.upc = s.upc := rfl
@[simp] theorem State.sample_dcFresh (s : State) : s.sample.dcFresh = s.dcFresh := rfl
@[simp] theorem State.sample_bcnt (s : State) : s.sample.bcnt = s.bcnt := rfl
@[simp] theorem State.sample_ccnt (s : State) : s.sample.ccnt = s.ccnt := rfl
@[simp] theorem State.sample_pcnt (s : State) : s.sample.pcnt = s.pcnt := rfl
@[simp] theorem State.sample_len (s : State) : s.sample.len = s.len := rfl
@[simp] theorem State.sample_inWait (s : State) : s.sample.inWait = s.inWait := rfl
@[simp] theorem State.sample_tmr (s : State) : s.sample.tmr = s.tmr := rfl
@[simp] theorem State.sample_fb (s : State) : s.sample.fb = s.fb := rfl
@[simp] theorem State.sample_trace (s : State) : s.sample.trace = s.trace := rfl
@[simp] theorem State.sample_now (s : State) : s.sample.now = s.now := rfl
@[simp] theorem State.sample_pins (s : State) : s.sample.pins = freePins s.draws := rfl
@[simp] theorem State.sample_draws (s : State) : s.sample.draws = s.draws + 1 := rfl

/-! ### blockReset -/

@[simp] theorem State.blockReset_cfg (s : State) : s.blockReset.cfg = s.cfg := rfl
@[simp] theorem State.blockReset_rom (s : State) : s.blockReset.rom = s.rom := rfl
@[simp] theorem State.blockReset_drv (s : State) : s.blockReset.drv = false := rfl
@[simp] theorem State.blockReset_cs (s : State) : s.blockReset.cs = none := rfl
@[simp] theorem State.blockReset_dc (s : State) : s.blockReset.dc = none := rfl
@[simp] theorem State.blockReset_rst (s : State) : s.blockReset.rst = none := rfl
@[simp] theorem State.blockReset_ser (s : State) : s.blockReset.ser = Serial.reset := rfl
@[simp] theorem State.blockReset_mode (s : State) : s.blockReset.mode = .unconfigured := rfl
@[simp] theorem State.blockReset_phase (s : State) : s.blockReset.phase = .idle := rfl
@[simp] theorem State.blockReset_status (s : State) : s.blockReset.status = .none := rfl
@[simp] theorem State.blockReset_warnCnt (s : State) : s.blockReset.warnCnt = 0 := rfl
@[simp] theorem State.blockReset_prog (s : State) : s.blockReset.prog = none := rfl
@[simp] theorem State.blockReset_upc (s : State) : s.blockReset.upc = 0 := rfl
@[simp] theorem State.blockReset_dcFresh (s : State) : s.blockReset.dcFresh = false := rfl
@[simp] theorem State.blockReset_bcnt (s : State) : s.blockReset.bcnt = 0 := rfl
@[simp] theorem State.blockReset_ccnt (s : State) : s.blockReset.ccnt = 0 := rfl
@[simp] theorem State.blockReset_pcnt (s : State) : s.blockReset.pcnt = 0 := rfl
@[simp] theorem State.blockReset_len (s : State) : s.blockReset.len = 0 := rfl
@[simp] theorem State.blockReset_inWait (s : State) : s.blockReset.inWait = false := rfl
@[simp] theorem State.blockReset_tmr (s : State) : s.blockReset.tmr = 0 := rfl
@[simp] theorem State.blockReset_fb (s : State) : s.blockReset.fb = [] := rfl
@[simp] theorem State.blockReset_trace (s : State) : s.blockReset.trace = [] := rfl
@[simp] theorem State.blockReset_now (s : State) : s.blockReset.now = 0 := rfl
@[simp] theorem State.blockReset_pins (s : State) : s.blockReset.pins = s.pins := rfl
@[simp] theorem State.blockReset_draws (s : State) : s.blockReset.draws = s.draws := rfl

end Sys2Proof.Machine
end

