-- ==== Sys2Proof/Laws/Ops.lean ====
section
/-! SUPPORT. What each shared operation can do, said once: the guards (`ifDriven`, `ifTaken`, `ifReady`),
the end of a step (`thenSample`), the frames on the wire (`sendFrames`), the end of an operation (`abort`),
and what a step can be (`step_cases`). -/

namespace Sys2Proof.Machine

/-! ### Guards -/

theorem ifDriven_of_drv {s : State} (t : State) (h : s.drv = true) : ifDriven s t = .next t := by
  simp [ifDriven, h]

theorem ifDriven_of_not_drv {s : State} (t : State) (h : s.drv = false) : ifDriven s t = .fault .notDriven := by
  simp [ifDriven, h]

/-- A pin write answers a next state only for a driven bus. -/
theorem ifDriven_next {s t u : State} (h : ifDriven s t = .next u) : s.drv = true ∧ u = t := by
  unfold ifDriven at h
  split at h
  · rename_i hd; exact ⟨hd, (Host.Outcome.next.inj h).symm⟩
  · cases h

/-- A request is taken, or it has no effect. -/
theorem ifTaken_next {s u : State} {r : Host.Outcome State Fault Refusal} (h : ifTaken s r = .next u) :
    (s.reqReady = true ∧ r = .next u) ∨ (s.reqReady = false ∧ u = s) := by
  unfold ifTaken at h
  split at h
  · rename_i hr; exact .inl ⟨hr, h⟩
  · rename_i hr; exact .inr ⟨by simpa using hr, (Host.Outcome.next.inj h).symm⟩

/-- DISPLAYFRAME or SLEEP is admitted in `Ready`, or rejected with `NotConfigured`. -/
theorem ifReady_next {op : HostOp} {s u : State} {r : Host.Outcome State Fault Refusal}
    (h : ifReady op s r = .next u) :
    (s.mode = .ready ∧ r = .next u) ∨
    ((s.mode = .unconfigured ∨ s.mode = .asleep) ∧ u = s.reject op .notConfigured) := by
  unfold ifReady at h
  split at h
  · rename_i hm; exact .inl ⟨hm, h⟩
  · rename_i hm; exact .inr ⟨.inl hm, (Host.Outcome.next.inj h).symm⟩
  · rename_i hm; exact .inr ⟨.inr hm, (Host.Outcome.next.inj h).symm⟩
  · cases h

/-! ### The end of a step -/

@[simp] theorem thenSample_next (s : State) : thenSample (.next s) = .next s.sample := rfl
@[simp] theorem thenSample_fault (r : Fault) : thenSample (.fault r) = .fault r := rfl
@[simp] theorem thenSample_refused (r : Refusal) : thenSample (.refused r) = .refused r := rfl

theorem thenSample_eq_next {o : Host.Outcome State Fault Refusal} {t : State} (h : thenSample o = .next t) :
    ∃ u, o = .next u ∧ t = u.sample := by
  cases o with
  | next u => exact ⟨u, rfl, (Host.Outcome.next.inj h).symm⟩
  | fault r => cases h
  | refused r => cases h

/-- What a step that answers a next state did: a block reset, one micro-operation of the running program,
one request, or nothing; then the input lines are drawn anew. -/
theorem step_cases {s t : State} (h : step s = .next t) :
    ∃ u, t = u.sample ∧
      ((s.pins.rst = true ∧ u = s.blockReset) ∨
       (s.pins.rst = false ∧ ∃ p w i, s.prog = some p ∧ (s.rom.words p)[s.upc]? = some w ∧
          decodeUop w = .ok i ∧ exec i s = .next u) ∨
       (s.pins.rst = false ∧ s.prog = none ∧ s.pins.reqValid = true ∧
          exec (decodeHostop s.pins.reqOp) s = .next u) ∨
       (s.pins.rst = false ∧ s.prog = none ∧ s.pins.reqValid = false ∧ u = s)) := by
  obtain ⟨u, hu, rfl⟩ := thenSample_eq_next h
  refine ⟨u, rfl, ?_⟩
  split at hu
  · rename_i hr; exact .inl ⟨hr, (Host.Outcome.next.inj hu).symm⟩
  · rename_i hr
    have hr' : s.pins.rst = false := by simpa using hr
    unfold runOnce at hu
    split at hu
    · rename_i p hp
      unfold runUop fetchWord at hu
      split at hu
      · cases hu
      · rename_i w hw
        split at hu
        · cases hu
        · rename_i i hi; exact .inr (.inl ⟨hr', p, w, i, hp, hw, hi, hu⟩)
    · rename_i hp
      unfold runRequest at hu
      split at hu
      · rename_i hv; exact .inr (.inr (.inl ⟨hr', hp, hv, hu⟩))
      · rename_i hv; exact .inr (.inr (.inr ⟨hr', hp, by simpa using hv, (Host.Outcome.next.inj hu).symm⟩))

/-! ### Frames on the wire -/

@[simp] theorem State.sendFrames_nil (s : State) : State.sendFrames [] s = s := rfl
@[simp] theorem State.sendFrames_cons (f : Frame) (fs : List Frame) (s : State) :
    State.sendFrames (f :: fs) s = State.sendFrames fs (s.sendFrame f) := rfl

@[simp] theorem framesEvents_nil : framesEvents [] = [] := rfl
@[simp] theorem framesEvents_cons (f : Frame) (fs : List Frame) :
    framesEvents (f :: fs) = frameEvents f ++ framesEvents fs := rfl

/-- Frames append their events, in order, and nothing else. -/
theorem State.sendFrames_trace (fs : List Frame) (s : State) :
    (State.sendFrames fs s).trace = s.trace ++ framesEvents fs := by
  induction fs generalizing s with
  | nil => simp
  | cons f fs ih => simp [ih, frameEvents, List.append_assoc]

/-- Frames write the lines, the serial registers, `dc_fresh` and the trace, and nothing else. -/
theorem State.sendFrames_frame (fs : List Frame) (s : State) :
    State.sendFrames fs s =
      { s with
        cs := (State.sendFrames fs s).cs
        dc := (State.sendFrames fs s).dc
        ser := (State.sendFrames fs s).ser
        dcFresh := (State.sendFrames fs s).dcFresh
        trace := (State.sendFrames fs s).trace } := by
  induction fs generalizing s with
  | nil => rfl
  | cons f fs ih => rw [State.sendFrames_cons, ih (s.sendFrame f)]; rfl

/-- Every frame list that is not empty leaves select high and no discriminator write pending. -/
theorem State.sendFrames_lines {fs : List Frame} (hfs : fs ≠ []) (s : State) :
    (State.sendFrames fs s).cs = some .high ∧ (State.sendFrames fs s).dcFresh = false := by
  induction fs generalizing s with
  | nil => exact absurd rfl hfs
  | cons f fs ih =>
    cases fs with
    | nil => simp
    | cons g gs => exact ih (by simp) (s.sendFrame f)

/-! ### The serial line -/

/-- The shift register after `n` periods holds the byte shifted left, the counter counts the periods. -/
theorem Serial.periods_sh (n : Nat) (x : Serial) : (Serial.periods n x).sh = x.sh <<< n := by
  induction n generalizing x with
  | zero => simp [Serial.periods]
  | succ n ih => simp only [Serial.periods, ih, Serial.period, Nat.add_comm n 1, BitVec.shiftLeft_add]

theorem Serial.slots_length (n : Nat) (x : Serial) : (Serial.slots n x).length = n := by
  induction n generalizing x with
  | zero => rfl
  | succ n ih => simp [Serial.slots, ih]

/-! ### Time -/

theorem freeExcess_nonneg (k : Nat) : 0 ≤ freeExcess k := by
  unfold freeExcess; positivity

theorem freeInterval_pos (k : Nat) : 0 < freeInterval k := by
  unfold freeInterval; positivity

/-! ### The trace -/

/-- Reading a trace in two parts. -/
theorem Scan.events_append (a b : List Event) (x : Scan) :
    x.events (a ++ b) = (x.events a).bind (fun y => y.events b) := by
  induction a generalizing x with
  | nil => rfl
  | cons e a ih =>
    simp only [List.cons_append, Scan.events]
    cases x.event e with
    | none => rfl
    | some y => exact ih y

theorem sessionEvents_append (a b : List Event) (x : Bool) :
    sessionEvents x (a ++ b) = (sessionEvents x a).bind (fun y => sessionEvents y b) := by
  induction a generalizing x with
  | nil => rfl
  | cons e a ih =>
    simp only [List.cons_append, sessionEvents]
    cases sessionEvent x e with
    | none => rfl
    | some y => exact ih y

/-- The mode that a trace leaves on the discriminator, given the mode before it. -/
def lastMode : Option DcMode → List Event → Option DcMode
  | d, [] => d
  | _, .dcW m :: t => lastMode (some m) t
  | d, _ :: t => lastMode d t

/-- The frames of a trace in two parts. -/
theorem framesFrom_append (a b : List Event) (d : Option DcMode) :
    framesFrom d (a ++ b) = framesFrom d a ++ framesFrom (lastMode d a) b := by
  induction a generalizing d with
  | nil => rfl
  | cons e a ih => cases e <;> cases d <;> simp [framesFrom, lastMode, ih]

/-- The frames of the events of frames are the frames. -/
theorem framesFrom_framesEvents (fs : List Frame) (d : Option DcMode) : framesFrom d (framesEvents fs) = fs := by
  induction fs generalizing d with
  | nil => cases d <;> rfl
  | cons f fs ih => cases d <;> simp [frameEvents, framesFrom, ih]

/-! ### The meanings with several ends -/

/-- One frame, field by field. -/
theorem State.sendFrame_eq (f : Frame) (s : State) :
    s.sendFrame f =
      { s with
        dc := some f.1
        cs := some .high
        ser := s.ser.shiftOut f.2
        dcFresh := false
        trace := s.trace ++ frameEvents f } := by
  simp [State.sendFrame, State.select, State.setDc, State.setFresh, State.transfer, State.setCs, State.emit,
    State.clearFresh, frameEvents]

/-- A wire row that answers a next state has put its frames on a driven bus. -/
theorem exec_wire_next {i : Instr} {s t : State} (hw : i.format = .wire) (h : exec i s = .next t) :
    s.drv = true ∧ t = State.sendFrames (i.frames s.cfg) s := by
  cases i <;> simp [Instr.format] at hw <;> exact ifDriven_next h

/-- A count is below the bound, or it has reached it. -/
theorem timedOut_eq_false_iff (c : Config) (n : Nat) : timedOut c n = false ↔ belowBound c n := by
  unfold timedOut belowBound
  cases c.busyTimeout <;> simp

/-- What a poll can end in: the barrier passed, the bound reached, or another poll to come. -/
theorem execWaitrdy_next {s t : State} (h : exec .waitrdy s = .next t) :
    (s.pins.rdy = true ∧ t = s.enterWait.passBarrier) ∨
    (s.pins.rdy = false ∧ ¬ belowBound s.cfg s.enterWait.countBusy.pcnt ∧
      ∃ p, s.prog = some p ∧ t = s.enterWait.countBusy.abort p.op .hwNotResponding) ∨
    (s.pins.rdy = false ∧ belowBound s.cfg s.enterWait.countBusy.pcnt ∧ t = s.enterWait.countBusy.pause) := by
  simp only [exec, execWaitrdy] at h
  split at h
  · rename_i hr; exact .inl ⟨hr, (Host.Outcome.next.inj h).symm⟩
  · rename_i hr
    have hr : s.pins.rdy = false := by simpa using hr
    split at h
    · rename_i ht
      split at h
      · cases h
      · rename_i p hp
        refine .inr (.inl ⟨hr, ?_, p, hp, (Host.Outcome.next.inj h).symm⟩)
        rw [← timedOut_eq_false_iff, ht]; simp
    · rename_i ht
      exact .inr (.inr ⟨hr, (timedOut_eq_false_iff _ _).1 (by simpa using ht), (Host.Outcome.next.inj h).symm⟩)

/-- What a STREAM step can do: move on, or send one byte. -/
theorem execStream_next {s t : State} (h : exec .stream s = .next t) :
    s.prog = some .display ∧
    ((frameBytes s.cfg ≤ s.bcnt ∧ t = s.advance) ∨
     (s.bcnt < frameBytes s.cfg ∧ s.drv = true ∧ t = s.streamByte.endChunk.endStream)) := by
  simp only [exec, execStream] at h
  split at h
  · cases h
  · rename_i hp
    refine ⟨by simpa using hp, ?_⟩
    split at h
    · rename_i hb; exact .inl ⟨hb, (Host.Outcome.next.inj h).symm⟩
    · have := ifDriven_next h; exact .inr ⟨by omega, this.1, this.2⟩

/-! ### Words of the micro-programs -/

theorem romCmd_fields : ∀ c : Byte, uopKind (romCmd c) = 0x4 ∧ uopImm (romCmd c) = c := by decide

theorem romDat_fields : ∀ d : Byte, uopKind (romDat d) = 0x5 ∧ uopImm (romDat d) = d := by decide

@[simp] theorem decodeUop_romCmd (c : Byte) : decodeUop (romCmd c) = .ok (.cmd c) := by
  simp [decodeUop, romCmd_fields c]

@[simp] theorem decodeUop_romDat (d : Byte) : decodeUop (romDat d) = .ok (.dat d) := by
  simp [decodeUop, romDat_fields d]

end Sys2Proof.Machine
end

