-- ==== Sys2Proof/Laws/PerInstr.lean ====
section
/-! SUPPORT. The rows of spec/opcode_table.json, instruction by instruction: the first word of every
instruction has the bits its row fixes. -/

namespace Sys2Proof.Laws

/-- A row's width, match and mask in spec/opcode_table.json (for the rows without a match, the mode bit
their encoding pattern begins with). -/
def rowOf : Instr → Nat × Nat × Nat
  | .hostopReserved => (2, 0x0, 0x3)
  | .initializeOp => (2, 0x1, 0x3)
  | .displayframe => (2, 0x2, 0x3)
  | .sleep => (2, 0x3, 0x3)
  | .endOp => (12, 0x000, 0xFFF)
  | .setcmd => (12, 0x100, 0xFFF)
  | .setdat => (12, 0x200, 0xFFF)
  | .xfer _ => (12, 0x300, 0xF00)
  | .cmd _ => (12, 0x400, 0xF00)
  | .dat _ => (12, 0x500, 0xF00)
  | .rstw _ => (12, 0x600, 0xFFE)
  | .delay _ => (12, 0x700, 0xF00)
  | .waitrdy => (12, 0x800, 0xFFF)
  | .yield => (12, 0x900, 0xFFF)
  | .hardreset => (12, 0xA00, 0xFFF)
  | .stream => (12, 0xB00, 0xFFF)
  | .phase _ => (12, 0xC00, 0xFF0)
  | .uopReservedD _ => (12, 0xD00, 0xF00)
  | .uopReservedE _ => (12, 0xE00, 0xF00)
  | .uopReservedF _ => (12, 0xF00, 0xF00)
  | .wireCmd _ | .frameStart | .powerOn | .refresh | .powerOff | .deepSleep | .initEntry _ _ => (9, 0x000, 0x100)
  | .wireData _ | .pixelData _ _ => (9, 0x100, 0x100)

/-- Width and value of the first word of an encoding. -/
def firstWord : Words → Option (Nat × Nat)
  | .hostop w => some (2, w.toNat)
  | .uop w => some (12, w.toNat)
  | .wire (w :: _) => some (9, w.toNat)
  | .wire [] => none

/-- The first word has the width and the fixed bits of the row. -/
def OpcodeRow.Statement (i : Instr) : Prop :=
  ∀ c : Config, ∃ w, firstWord (encode c i) = some ((rowOf i).1, w) ∧ w &&& (rowOf i).2.2 = (rowOf i).2.1

/-- A micro-operation word keeps its kind in bits 11 to 8. -/
theorem uopWord_mask_kind : ∀ (k : Nibble) (v : Byte), (uopWord k v).toNat &&& 0xF00 = k.toNat * 256 := by decide

/-- A command frame has mode bit 0. -/
theorem frameWord_cmd_mask : ∀ v : Byte, (frameWord (.cmd, v)).toNat &&& 0x100 = 0x000 := by decide

/-- A data frame has mode bit 1. -/
theorem frameWord_data_mask : ∀ v : Byte, (frameWord (.data, v)).toNat &&& 0x100 = 0x100 := by decide

theorem OpcodeRow.hostopReserved : OpcodeRow.Statement .hostopReserved := fun _ => ⟨_, rfl, rfl⟩
theorem OpcodeRow.initializeOp : OpcodeRow.Statement .initializeOp := fun _ => ⟨_, rfl, rfl⟩
theorem OpcodeRow.displayframe : OpcodeRow.Statement .displayframe := fun _ => ⟨_, rfl, rfl⟩
theorem OpcodeRow.sleep : OpcodeRow.Statement .sleep := fun _ => ⟨_, rfl, rfl⟩
theorem OpcodeRow.endOp : OpcodeRow.Statement .endOp := fun _ => ⟨_, rfl, rfl⟩
theorem OpcodeRow.setcmd : OpcodeRow.Statement .setcmd := fun _ => ⟨_, rfl, rfl⟩
theorem OpcodeRow.setdat : OpcodeRow.Statement .setdat := fun _ => ⟨_, rfl, rfl⟩
theorem OpcodeRow.xfer (v : Byte) : OpcodeRow.Statement (.xfer v) := fun _ => ⟨_, rfl, uopWord_mask_kind 0x3 v⟩
theorem OpcodeRow.cmd (c : Byte) : OpcodeRow.Statement (.cmd c) := fun _ => ⟨_, rfl, uopWord_mask_kind 0x4 c⟩
theorem OpcodeRow.dat (d : Byte) : OpcodeRow.Statement (.dat d) := fun _ => ⟨_, rfl, uopWord_mask_kind 0x5 d⟩
theorem OpcodeRow.rstw (l : Level) : OpcodeRow.Statement (.rstw l) := fun _ => ⟨_, rfl, by cases l <;> rfl⟩
theorem OpcodeRow.delay (t : Byte) : OpcodeRow.Statement (.delay t) := fun _ => ⟨_, rfl, uopWord_mask_kind 0x7 t⟩
theorem OpcodeRow.waitrdy : OpcodeRow.Statement .waitrdy := fun _ => ⟨_, rfl, rfl⟩
theorem OpcodeRow.yield : OpcodeRow.Statement .yield := fun _ => ⟨_, rfl, rfl⟩
theorem OpcodeRow.hardreset : OpcodeRow.Statement .hardreset := fun _ => ⟨_, rfl, rfl⟩
theorem OpcodeRow.stream : OpcodeRow.Statement .stream := fun _ => ⟨_, rfl, rfl⟩
theorem OpcodeRow.phase (p : Nibble) : OpcodeRow.Statement (.phase p) := fun _ => ⟨_, rfl, by revert p; decide⟩
theorem OpcodeRow.uopReservedD (imm : Byte) : OpcodeRow.Statement (.uopReservedD imm) :=
  fun _ => ⟨_, rfl, uopWord_mask_kind 0xD imm⟩
theorem OpcodeRow.uopReservedE (imm : Byte) : OpcodeRow.Statement (.uopReservedE imm) :=
  fun _ => ⟨_, rfl, uopWord_mask_kind 0xE imm⟩
theorem OpcodeRow.uopReservedF (imm : Byte) : OpcodeRow.Statement (.uopReservedF imm) :=
  fun _ => ⟨_, rfl, uopWord_mask_kind 0xF imm⟩
theorem OpcodeRow.wireCmd (v : Byte) : OpcodeRow.Statement (.wireCmd v) := fun _ => ⟨_, rfl, frameWord_cmd_mask v⟩
theorem OpcodeRow.wireData (v : Byte) : OpcodeRow.Statement (.wireData v) := fun _ => ⟨_, rfl, frameWord_data_mask v⟩
theorem OpcodeRow.frameStart : OpcodeRow.Statement .frameStart := fun c => ⟨_, rfl, frameWord_cmd_mask c.cmdFrameStart⟩
theorem OpcodeRow.powerOn : OpcodeRow.Statement .powerOn := fun c => ⟨_, rfl, frameWord_cmd_mask c.cmdPowerOn⟩
theorem OpcodeRow.refresh : OpcodeRow.Statement .refresh := fun c => ⟨_, rfl, frameWord_cmd_mask c.cmdRefresh⟩
theorem OpcodeRow.powerOff : OpcodeRow.Statement .powerOff := fun c => ⟨_, rfl, frameWord_cmd_mask c.cmdPowerOff⟩
theorem OpcodeRow.deepSleep : OpcodeRow.Statement .deepSleep := fun c => ⟨_, rfl, frameWord_cmd_mask c.cmdDeepSleep⟩
theorem OpcodeRow.initEntry (b : Byte) (ds : List Byte) : OpcodeRow.Statement (.initEntry b ds) :=
  fun _ => ⟨_, rfl, frameWord_cmd_mask b⟩
theorem OpcodeRow.pixelData (p0 p1 : Nibble) : OpcodeRow.Statement (.pixelData p0 p1) :=
  fun _ => ⟨_, rfl, frameWord_data_mask (packPixels p0 p1)⟩

end Sys2Proof.Laws
end

