-- ==== Sys2Proof/Tests/Slice0.lean ====
section
/-! SUPPORT. Tests of single steps, with expected results from spec/95_test_vectors.md or worked out by hand
from the rules, and a witness for the hypotheses of every statement. The configuration is the toy
instantiation T of 95 section 0; its values are not the hardware's. -/

namespace Sys2Proof.Tests

open Sys2Proof Sys2Proof.Machine

/-! ### The toy machine -/

/-- T of 95 section 0. -/
def cfgT : Config where
  width := 4
  height := 4
  tRstHi1 := 20
  tRstLo := 1
  tRstHi2 := 20
  initTable := [(0xC1, [0x11, 0x12]), (0xC2, [0x21]), (0xC3, [])]
  cmdFrameStart := 0xD0
  cmdPowerOn := 0xD1
  cmdRefresh := 0xD2
  argRefresh := 0x5A
  cmdPowerOff := 0xD3
  argPowerOff := 0x5B
  cmdDeepSleep := 0xD4
  sleepPayload := [0x5C]
  spiHz := 1
  spiMode := { cpol := false, cpha := false }
  dcLevelCmd := .low
  pinMap := { sck := 0, mosi := 1, cs := 2, rdy := 3, rst := 4, dc := 5 }
  chunkRows := 2
  tPoll := 1
  tYield := 1
  busyTimeout := none
  encoding := .native4
  clkHz := 1
  nibClean := 0x1

/-- T with a bound of three polls. -/
def cfgBound : Config := { cfgT with busyTimeout := some 3 }

/-- T in the other encoding. -/
def cfgLut : Config := { cfgT with encoding := .lut3 }

/-- After block reset. -/
def sReset (c : Config) : State := State.resetWith c (Rom.ofConfig c)

/-- Configured and idle, in a mode. -/
def sIdle (c : Config) (m : Mode) : State := { sReset c with drv := true, cs := some .high, mode := m }

/-- At a word of a running micro-program. -/
def sAt (c : Config) (p : Prog) (n : Nat) (m : Mode) (ph : Phase) : State :=
  { sIdle c m with prog := some p, upc := n, phase := ph }

/-- A driven bus with both registers of a transfer ready: the start of the vectors B1 to B10. -/
def sBus : State := sAt cfgT .display 1 .ready .transmitting

/-- STREAM of T at a byte of a buffer. -/
def sStream (c : Config) (n k : Nat) (bs : List Byte) : State :=
  { sAt c .display 2 .ready .transmitting with bcnt := n, ccnt := k, fb := Memory.ofBytes bs }

/-- Input lines with the ready line at a level. -/
def line (r : Bool) : Pins := { Pins.inactive with rdy := r }

/-- A request on the port. -/
def ask (op : HostWord) (len : BitVec 18) (ok : Bool) : Pins :=
  { Pins.inactive with reqValid := true, reqOp := op, reqLen := len, cfgOk := ok, fb := [(0, 0x33)] }

/-- A state with other input lines. -/
def withPins (p : Pins) (s : State) : State := { s with pins := p }

/-- A view of the next state, none where the outcome is a stop. -/
def view {α : Type} (f : State → α) : Host.Outcome State Fault Refusal → Option α
  | .next s => some (f s)
  | .fault _ => none
  | .refused _ => none

/-- The frame buffer of program P2. -/
def bufP2 : List Byte := [0x33, 0x00, 0x58, 0x47, 0x60, 0x03, 0x30, 0x88]

/-! ### Well-formed and ill-formed terms -/

theorem test_phase_code_8_is_well_formed : (Instr.phase 8).wellFormed cfgT = true := by decide
theorem test_phase_code_9_is_ill_formed : (Instr.phase 9).wellFormed cfgT = false := by decide
theorem test_entry_of_the_table_is_well_formed : (Instr.initEntry 0xC1 [0x11, 0x12]).wellFormed cfgT = true := by decide
theorem test_entry_outside_the_table_is_ill_formed : (Instr.initEntry 0xC1 [0x11]).wellFormed cfgT = false := by decide

theorem test_config_T_is_well_formed : cfgT.wellFormed = true := by decide
theorem test_config_short_holds_are_ill_formed :
    ({ cfgT with tRstHi1 := 19 } : Config).wellFormed = false ∧ ({ cfgT with tRstLo := 0 } : Config).wellFormed = false ∧
    ({ cfgT with tRstHi2 := 19 } : Config).wellFormed = false := by decide
theorem test_config_odd_width_is_ill_formed : ({ cfgT with width := 5 } : Config).wellFormed = false := by decide
theorem test_config_empty_chunk_is_ill_formed : ({ cfgT with chunkRows := 0 } : Config).wellFormed = false := by decide
theorem test_config_zero_bound_is_ill_formed : ({ cfgT with busyTimeout := some 0 } : Config).wellFormed = false := by decide

/-! ### Decoding: words written out from 30 R73 to R80 -/

/-- 30 R73: the four request codes. -/
theorem test_decode_hostop : decodeHostop 0b00 = .hostopReserved ∧ decodeHostop 0b01 = .initializeOp ∧
    decodeHostop 0b10 = .displayframe ∧ decodeHostop 0b11 = .sleep := by decide

/-- 30 R75, kinds 0 to 5: bits 11 to 8, then the immediate (V1, V3, V5 to V9). -/
theorem test_decode_bus_words :
    decodeUop 0b0000_00000000 = .ok .endOp ∧ decodeUop 0b0001_00000000 = .ok .setcmd ∧
    decodeUop 0b0010_00000000 = .ok .setdat ∧ decodeUop 0b0011_00000000 = .ok (.xfer 0x00) ∧
    decodeUop 0b0011_11111111 = .ok (.xfer 0xFF) ∧ decodeUop 0b0100_11010001 = .ok (.cmd 0xD1) ∧
    decodeUop 0b0101_01011010 = .ok (.dat 0x5A) :=
  ⟨rfl, rfl, rfl, rfl, rfl, rfl, rfl⟩

/-- 30 R75, kinds 6 to 0xC (V10, V11, V13 to V16, V18 to V22). -/
theorem test_decode_sequencer_words :
    decodeUop 0b0110_00000000 = .ok (.rstw .low) ∧ decodeUop 0b0110_00000001 = .ok (.rstw .high) ∧
    decodeUop 0b0111_00000000 = .ok (.delay 0) ∧ decodeUop 0b0111_00010100 = .ok (.delay 20) ∧
    decodeUop 0b0111_11111111 = .ok (.delay 255) ∧ decodeUop 0b1000_00000000 = .ok .waitrdy ∧
    decodeUop 0b1001_00000000 = .ok .yield ∧ decodeUop 0b1010_00000000 = .ok .hardreset ∧
    decodeUop 0b1011_00000000 = .ok .stream ∧ decodeUop 0b1100_00000000 = .ok (.phase 0) ∧
    decodeUop 0b1100_00001000 = .ok (.phase 8) :=
  ⟨rfl, rfl, rfl, rfl, rfl, rfl, rfl, rfl, rfl, rfl, rfl⟩

/-- 30 R75, reserved kinds (V25). -/
theorem test_decode_reserved_kinds : decodeUop 0b1101_00000000 = .ok (.uopReservedD 0) ∧
    decodeUop 0b1110_00000000 = .ok (.uopReservedE 0) ∧ decodeUop 0b1111_11111111 = .ok (.uopReservedF 0xFF) :=
  ⟨rfl, rfl, rfl⟩

/-- V2, V4, V12, V17, V23, V24: rejected, each by its name. -/
theorem test_decode_rejects : decodeUop 0x001 = .error (.immNotZero 0) ∧ decodeUop 0x101 = .error (.immNotZero 1) ∧
    decodeUop 0x602 = .error .rstwHighBits ∧ decodeUop 0x880 = .error (.immNotZero 8) ∧
    decodeUop 0xC09 = .error .phaseCode ∧ decodeUop 0xC11 = .error .phaseHighBits :=
  ⟨rfl, rfl, rfl, rfl, rfl, rfl⟩

/-- 30 R71, 95 section 2.1: mode bit, then the byte. -/
theorem test_decode_frames : decodeWire 0b0_11000001 = .wireCmd 0xC1 ∧ decodeWire 0b1_00010001 = .wireData 0x11 ∧
    decodeWire 0x100 = .wireData 0x00 ∧ decodeWire 0x0FF = .wireCmd 0xFF ∧ decodeWire 0x1FF = .wireData 0xFF := by
  decide

/-- 30 R77, R78, R80: the named messages of T, from their frames' bits. -/
theorem test_decode_messages :
    decode cfgT (some .transmitting) (.wire [0b0_11010000]) = .ok .frameStart ∧
    decode cfgT (some .poweringOn) (.wire [0b0_11010001]) = .ok .powerOn ∧
    decode cfgT (some .refreshing) (.wire [0b0_11010010, 0b1_01011010]) = .ok .refresh ∧
    decode cfgT (some .poweringOff) (.wire [0b0_11010011, 0b1_01011011]) = .ok .powerOff ∧
    decode cfgT (some .sleeping) (.wire [0b0_11010100, 0b1_01011100]) = .ok .deepSleep ∧
    decode cfgT (some .initReplay) (.wire [0b0_11000001, 0b1_00010001, 0b1_00010010]) =
      .ok (.initEntry 0xC1 [0x11, 0x12]) ∧
    decode cfgT (some .transmitting) (.wire [0b1_01011000]) = .ok (.pixelData 0x5 0x8) :=
  ⟨rfl, rfl, rfl, rfl, rfl, rfl, rfl⟩

/-- A refresh command without its data byte is no message. -/
theorem test_decode_short_message : decode cfgT (some .refreshing) (.wire [0b0_11010010]) = .error .notAMessage := rfl

/-- The host's words: one row of each format, and a word that is no instruction. -/
theorem test_table_words : decodeTableWord 2 0x1 = some .initializeOp ∧ decodeTableWord 12 0x4D1 = some (.cmd 0xD1) ∧
    decodeTableWord 16 0x4D1 = some (.cmd 0xD1) ∧ decodeTableWord 9 0x111 = some (.wireData 0x11) ∧
    decodeTableWord 16 0x0C1 = some (.wireCmd 0xC1) ∧ decodeTableWord 16 0x000 = some .endOp ∧
    decodeTableWord 12 0x001 = none ∧ decodeTableWord 8 4 = none := by decide

/-! ### The micro-programs of T, word by word (95 section 0) -/

theorem test_rom_init : romInit cfgT =
    [0xC05, 0xA00, 0xC06, 0x800, 0xC07, 0x4C1, 0x511, 0x512, 0x4C2, 0x521, 0x4C3, 0x000] := by decide
theorem test_rom_display : romDisplay cfgT =
    [0xC01, 0x4D0, 0xB00, 0xC02, 0x4D1, 0x800, 0xC03, 0x4D2, 0x55A, 0x800, 0xC04, 0x4D3, 0x55B, 0x800, 0x000] := by
  decide
theorem test_rom_sleep : romSleep cfgT = [0xC08, 0x4D4, 0x55C, 0x600, 0x000] := by decide

/-! ### Geometry (95 section 2.5) -/

theorem test_frame_bytes : frameBytes Config.hardware = 192000 ∧ rowBytes Config.hardware = 400 ∧
    chunkBytes Config.hardware = 4000 ∧ nChunks Config.hardware = 48 := ⟨rfl, rfl, rfl, rfl⟩
/-- V72, V73, V75. -/
theorem test_n_chunks : nChunks { Config.hardware with chunkRows := 7 } = 69 ∧
    nChunks { Config.hardware with chunkRows := 479 } = 2 ∧ nChunks { Config.hardware with chunkRows := 481 } = 1 :=
  ⟨rfl, rfl, rfl⟩
theorem test_pixel_offsets : pixelOffset Config.hardware 799 0 = 399 ∧ pixelOffset Config.hardware 0 1 = 400 ∧
    pixelOffset Config.hardware 799 479 = 191999 := ⟨rfl, rfl, rfl⟩
/-- P2: row 1 is green, orange, red, yellow. -/
theorem test_pixels_of_a_row : [0, 1, 2, 3].map (fun x => pixelAt cfgT (Memory.ofBytes bufP2) x 1) = [5, 8, 4, 7] := by
  decide

/-! ### The converter (95 section 2.4) -/

/-- V40 to V47, V55. -/
theorem test_lut : [0, 1, 2, 3, 4, 5, 6, 7, 15].map lut = [0x0, 0x3, 0x5, 0x6, 0x4, 0x7, 0x8, 0x0, 0x0] := by decide
/-- V58, V63, V65, V66, V68. -/
theorem test_conv : conv .lut3 0x26 = (0x58, []) ∧ conv .lut3 0x17 = (0x30, [7]) ∧
    conv .lut3 0xFF = (0x00, [15, 15]) ∧ conv .lut3 0x76 = (0x08, [7]) ∧ conv .native4 0x9F = (0x9F, []) := by decide

/-! ### The serial line (B21, B22) -/

theorem test_bits_of_a5 : (byteSlots 0xA5).map BitSlot.mosi = [true, false, true, false, false, true, false, true] := by
  decide
theorem test_shift_register_of_a5 : [1, 2, 3, 8].map (fun n => (Serial.periods n (Serial.reset.load 0xA5)).sh) =
    [0x4A, 0x94, 0x28, 0x00] := by decide

/-! ### Steps of the bus micro-operations (95 section 2.2) -/

/-- B3: recorded though the level is the same. -/
theorem test_setcmd_repeated : view (fun t => (t.dc, t.dcFresh, t.trace, t.upc)) (exec .setcmd { sBus with dc := some .cmd }) =
    some (some .cmd, true, [.dcW .cmd], 2) := by decide
/-- B2. -/
theorem test_setdat : view (fun t => (t.dc, t.dcFresh, t.trace)) (exec .setdat { sBus with dc := some .cmd, dcFresh := true }) =
    some (some .data, true, [.dcW .data]) := by decide
/-- B4. -/
theorem test_xfer : view (fun t => (t.cs, t.dc, t.dcFresh, frames t.trace))
    (exec (.xfer 0x33) { sBus with dc := some .data, dcFresh := true, trace := [.dcW .data] }) =
    some (some .high, some .data, false, [(.data, 0x33)]) := by decide
/-- B5, B6, B7. -/
theorem test_xfer_faults : exec (.xfer 0x33) sBus = .fault .dcNotSet ∧
    exec (.xfer 0x33) { sBus with drv := false } = .fault .notDriven ∧
    exec (.xfer 0x33) { sBus with cs := some .low, dcFresh := true } = .fault .selectAlreadyLow := ⟨rfl, rfl, rfl⟩
/-- B8. -/
theorem test_cmd : view (fun t => (t.dc, t.cs, t.dcFresh, t.trace, t.upc)) (exec (.cmd 0xD1) sBus) =
    some (some .cmd, some .high, false, [.dcW .cmd, .csW .low, .byte 0xD1, .csW .high], 2) := by decide
/-- B9, first step. -/
theorem test_dat : view (fun t => (t.dc, t.trace)) (exec (.dat 0x00) { sBus with dc := some .cmd }) =
    some (some .data, [.dcW .data, .csW .low, .byte 0x00, .csW .high]) := by decide

/-! ### Reset pulse and barrier (95 section 2.3) -/

/-- S1. -/
theorem test_rstw : view (fun t => (t.rst, t.trace)) (exec (.rstw .low) { sBus with rst := some .high }) =
    some (some .low, [.rstW .low]) := by decide
/-- S3. -/
theorem test_delay : view (fun t => (t.trace, t.upc)) (exec (.delay 255) sBus) = some ([.wait 255], 2) := by decide
/-- S4, S5. -/
theorem test_hardreset : view (fun t => (t.rst, t.cs, t.dc, t.trace)) (exec .hardreset { sBus with rst := some .low }) =
    some (some .high, some .high, none, [.rstW .high, .wait 20, .rstW .low, .wait 1, .rstW .high, .wait 20]) := by decide
/-- 41 R123. -/
theorem test_hardreset_refused : exec .hardreset { sBus with cfg := { cfgT with tRstLo := 0 } } =
    .refused .shortResetHold := rfl
/-- S8. -/
theorem test_yield : view (fun t => (t.trace, t.upc, t.cs)) (exec .yield sBus) = some ([.yield], 2, some .high) := by decide
/-- W2, first poll. -/
theorem test_waitrdy_busy : view (fun t => (t.trace, t.upc, t.pcnt)) (exec .waitrdy (withPins (line false) sBus)) =
    some ([.poll false, .yield], 1, 1) := by decide
/-- W5, last poll: no yield after it. -/
theorem test_waitrdy_bound : view (fun t => (t.trace, t.mode, t.status, t.prog, t.upc))
    (exec .waitrdy (withPins (line false)
      { sAt cfgBound .init 3 .unconfigured .initWait with inWait := true, pcnt := 2 })) =
    some ([.poll false, .done .initializeOp .hwNotResponding], .unconfigured, .hwNotResponding, none, 0) := by decide

/-! ### Sequencer, stream -/

/-- P3 (a), step 6. -/
theorem test_end_of_sleep : view (fun t => (t.mode, t.phase, t.status, t.prog, t.trace)) (exec .endOp (sAt cfgT .sleep 4 .ready .sleeping)) =
    some (.asleep, .idle, .ok, none, [.done .sleep .ok]) := by decide
/-- P2, step 25: the mode stays. -/
theorem test_end_of_display : view (fun t => (t.mode, t.upc)) (exec .endOp (sAt cfgT .display 14 .ready .poweringOff)) =
    some (.ready, 0) := by decide
/-- 42 R148. -/
theorem test_phase : view (fun t => (t.phase, t.upc, t.trace)) (exec (.phase 3) sBus) = some (.refreshing, 2, []) := by decide
theorem test_phase_reserved : exec (.phase 9) sBus = .fault .illegalUop := rfl
theorem test_reserved_kinds : exec (.uopReservedD 0) sBus = .fault .illegalUop ∧
    exec (.uopReservedE 0) sBus = .fault .illegalUop ∧ exec (.uopReservedF 0) sBus = .fault .illegalUop :=
  ⟨rfl, rfl, rfl⟩
/-- P2, step 11: the last byte, with its yield. -/
theorem test_stream_last_byte : view (fun t => (t.bcnt, t.ccnt, t.upc, t.trace)) (exec .stream (sStream cfgT 7 3 bufP2)) =
    some (8, 0, 3, [.dcW .data, .csW .low, .byte 0x88, .csW .high, .yield]) := by decide
/-- P7, byte 2: the warning comes before the frame. -/
theorem test_stream_warns : view (fun t => (t.warnCnt, t.upc, t.trace))
    (exec .stream (sStream cfgLut 2 2 [0x11, 0x26, 0x17])) =
    some (1, 2, [.warn 7, .dcW .data, .csW .low, .byte 0x30, .csW .high]) := by decide

/-! ### Host operations -/

/-- 60 R226. -/
theorem test_reserved_request : view (fun t => (t.status, t.trace)) (exec .hostopReserved (sReset cfgT)) =
    some (.badOp, [.done .reserved .badOp]) := by decide
/-- P3 (c), step 1. -/
theorem test_initialize : view (fun t => (t.drv, t.cs, t.prog, t.trace))
    (exec .initializeOp (withPins (ask 1 0 true) (sIdle cfgT .ready))) =
    some (true, some .high, some .init, [.cfg, .csW .high]) := by decide
/-- 44 R193: a second request does not see `req_ready` after the admission. -/
theorem test_not_ready_after_admission : view (fun t => (t.reqReady, t.upc))
    (exec .initializeOp (withPins (ask 1 0 true) (sIdle cfgT .ready))) = some (false, 0) := by decide
/-- P6. -/
theorem test_initialize_fails : view (fun t => (t.mode, t.drv, t.cs, t.status, t.trace))
    (exec .initializeOp (withPins (ask 1 0 false) (sReset cfgT))) =
    some (.unconfigured, false, none, .setupFailure, [.done .initializeOp .setupFailure]) := by decide
/-- P2, step 1. -/
theorem test_displayframe : view (fun t => (t.len, t.bcnt, t.warnCnt, t.prog, t.trace))
    (exec .displayframe { withPins (ask 2 8 true) (sIdle cfgT .ready) with bcnt := 8, warnCnt := 4 }) =
    some (8, 0, 0, some .display, []) := by decide
/-- 60 R229: NotConfigured before BadLength; P4: no bus access. -/
theorem test_displayframe_rejected : view (fun t => (t.status, t.drv, t.trace))
    (exec .displayframe (withPins (ask 2 7 true) (sReset cfgT))) =
    some (.notConfigured, false, [.done .displayframe .notConfigured]) := by decide
/-- P3 (a), step 1. -/
theorem test_sleep : view (fun t => (t.prog, t.mode)) (exec .sleep (sIdle cfgT .ready)) = some (some .sleep, .ready) := by
  decide

/-! ### The wire rows -/

theorem test_wire_cmd : view (fun t => frames t.trace) (exec (.wireCmd 0xC1) sBus) = some [(.cmd, 0xC1)] := by decide
theorem test_wire_data : view (fun t => frames t.trace) (exec (.wireData 0x11) sBus) = some [(.data, 0x11)] := by decide
theorem test_frame_start : view (fun t => frames t.trace) (exec .frameStart sBus) = some [(.cmd, 0xD0)] := by decide
theorem test_power_on : view (fun t => frames t.trace) (exec .powerOn sBus) = some [(.cmd, 0xD1)] := by decide
theorem test_refresh : view (fun t => (t.dc, frames t.trace)) (exec .refresh sBus) =
    some (some .data, [(.cmd, 0xD2), (.data, 0x5A)]) := by decide
theorem test_power_off : view (fun t => frames t.trace) (exec .powerOff sBus) = some [(.cmd, 0xD3), (.data, 0x5B)] := by
  decide
theorem test_deep_sleep : view (fun t => frames t.trace) (exec .deepSleep sBus) = some [(.cmd, 0xD4), (.data, 0x5C)] := by
  decide
theorem test_init_entry : view (fun t => frames t.trace) (exec (.initEntry 0xC1 [0x11, 0x12]) sBus) =
    some [(.cmd, 0xC1), (.data, 0x11), (.data, 0x12)] := by decide
theorem test_pixel_data : view (fun t => frames t.trace) (exec (.pixelData 0x5 0x8) sBus) = some [(.data, 0x58)] := by
  decide

/-! ### The step -/

/-- A placed request runs as the first instruction after reset. -/
theorem test_step_runs_a_placed_request :
    step (State.reset.withFetchWord 2 0x0) = thenSample (exec .hostopReserved (State.reset.withFetchWord 2 0x0)) := rfl
/-- A placed micro-operation runs as the first instruction after reset. -/
theorem test_step_runs_a_placed_word :
    step (State.reset.withFetchWord 12 0x714) = thenSample (exec (.delay 20) (State.reset.withFetchWord 12 0x714)) := rfl
/-- A placed wire frame runs as the micro-operation that sends it. -/
theorem test_step_sends_a_placed_frame :
    step ({ State.reset with drv := true }.withFetchWord 9 0x111) =
      thenSample (exec (.dat 0x11) ({ State.reset with drv := true }.withFetchWord 9 0x111)) := rfl
/-- 10 R32: past the end of a micro-program. -/
theorem test_step_past_the_end : step (sAt cfgT .sleep 5 .ready .sleeping) = .fault .upcPastEnd := rfl
/-- 42 R147: END where nothing runs. -/
theorem test_end_without_operation : exec .endOp (sIdle cfgT .ready) = .fault .noOperation := rfl

/-! ### The frame buffer -/

theorem test_buffer_is_canonical : (Memory.ofBytes bufP2).wf = true ∧ (Memory.ofBytes bufP2).length = 7 := by decide
theorem test_buffer_reads : (Memory.ofBytes bufP2).read 2 = 0x58 ∧ (Memory.ofBytes bufP2).read 1 = 0x00 := by decide
theorem test_write_of_fill_removes : Memory.write [(0, 0x33), (2, 0x58)] 2 0 = [(0, 0x33)] := by decide

/-! ### The written form (30 R83) -/

theorem test_asm : asm (.cmd 0xD1) = some "CMD 0xD1" ∧ asm (.rstw .low) = some "RSTW L" ∧
    asm (.phase 3) = some "PHASE Refreshing" := by decide

/-! ### Witnesses: states and operands that meet the hypotheses of each statement

Each is named after its statement in Certificates/Slice0/Obligations.lean. Statements without hypotheses have
none. Where a statement has clauses, there is one part for each, at a boundary of its range. -/

/-- Any input lines with block reset. -/
def resetLine : Pins := { Pins.inactive with rst := true }

theorem witness_BlockResetWinsInEveryState : (withPins resetLine sBus).pins.rst = true := rfl

theorem witness_StepRunsTheDecodedInstruction :
    (sBus.pins.rst = false ∧ sBus.prog = some .display ∧ (sBus.rom.words .display)[sBus.upc]? = some 0x4D0 ∧
      decodeUop 0x4D0 = .ok (.cmd 0xD0)) ∧
    ((withPins (ask 2 8 true) (sIdle cfgT .ready)).pins.rst = false ∧
      (withPins (ask 2 8 true) (sIdle cfgT .ready)).prog = none ∧
      (withPins (ask 2 8 true) (sIdle cfgT .ready)).pins.reqValid = true) ∧
    ((sReset cfgT).pins.rst = false ∧ (sReset cfgT).prog = none ∧ (sReset cfgT).pins.reqValid = false) :=
  ⟨⟨rfl, rfl, rfl, rfl⟩, ⟨rfl, rfl, rfl⟩, rfl, rfl, rfl⟩

/-- A machine whose micro-program holds the word after the last PHASE (V23). -/
def sBadRom : State := { sBus with rom := sBus.rom.setWords .display [0xC01, 0xC09] }

theorem witness_IllegalWordsStopTheMachine :
    (sBadRom.pins.rst = false ∧ sBadRom.prog = some .display ∧
      (sBadRom.rom.words .display)[sBadRom.upc]? = some 0xC09 ∧ isUop 0xC09 = false) ∧
    8 < (9 : Nibble).toNat ∧ 8 < (15 : Nibble).toNat := by decide

theorem witness_DecodeOfEncodeIsTheInstruction : (Instr.phase 8).wellFormed cfgT = true ∧
    (Instr.initEntry 0xC3 []).wellFormed cfgT = true ∧ (Instr.xfer 0xFF).wellFormed cfgT = true := by decide

theorem witness_EncodeOfDecodedWordIsTheWord : decodeUop 0x7FF = .ok (.delay 255) ∧ decodeUop 0xFFF = .ok (.uopReservedF 0xFF) :=
  ⟨rfl, rfl⟩

/-- The three ways a word is rejected, at their boundaries, and the words beside them that are not. -/
theorem witness_RejectedWordsAreTheReservedOnes :
    (uopKind 0xB01 ∈ ([0x0, 0x1, 0x2, 0x8, 0x9, 0xA, 0xB] : List Nibble) ∧ uopImm 0xB01 ≠ 0) ∧
    (uopKind 0x602 = 0x6 ∧ 1 < (uopImm 0x602).toNat) ∧ (uopKind 0xC09 = 0xC ∧ 8 < (uopImm 0xC09).toNat) ∧
    isUop 0xB00 = true ∧ isUop 0x601 = true ∧ isUop 0xC08 = true := by decide

theorem witness_CodesOfRequestsAndRegisters : 8 < (9 : Nibble).toNat ∧ phaseOfCode 9 = none ∧
    phaseOfCode 8 = some .sleeping := by decide

theorem witness_ShiftRegisterFollowsTheByte : (7 < 8 ∧ (Serial.slots 8 (Serial.reset.load 0x01))[7]? =
    some { mosi := true, sck := [.idle, .active, .idle] }) ∧ 8 ≤ 8 := ⟨⟨by decide, rfl⟩, by decide⟩

theorem witness_DiscriminatorWritesEffect : sBus.drv = true ∧ (sReset cfgT).drv = false := ⟨rfl, rfl⟩

theorem witness_XferEffect :
    (let s := { sBus with dcFresh := true }; s.drv = true ∧ s.dcFresh = true ∧ s.cs = some .high) ∧
    (sReset cfgT).drv = false ∧ (sBus.drv = true ∧ sBus.dcFresh = false) ∧
    (let s := { sBus with dcFresh := true, cs := some .low }; s.drv = true ∧ s.dcFresh = true ∧ s.cs ≠ some .high) ∧
    (let s := { sBus with dcFresh := true, cs := none }; s.drv = true ∧ s.dcFresh = true ∧ s.cs ≠ some .high) := by decide

theorem witness_CmdEffect : sBus.drv = true ∧ (sReset cfgT).drv = false := ⟨rfl, rfl⟩
theorem witness_DatEffect : sBus.drv = true ∧ (sReset cfgT).drv = false := ⟨rfl, rfl⟩

theorem witness_CompositesEqualTheirExpansions :
    ((∃ b, Instr.dat 0xFF = .cmd b ∨ Instr.dat 0xFF = .dat b) ∨ Instr.dat 0xFF = .hardreset) ∧
    ((∃ b, Instr.hardreset = .cmd b ∨ Instr.hardreset = .dat b) ∨ Instr.hardreset = .hardreset) ∧
    sBus.drv = true ∧ sBus.cs = some .high ∧ sBus.cfg.tRstHi1 = 20 ∧ sBus.cfg.tRstLo = 1 ∧ sBus.cfg.tRstHi2 = 20 :=
  ⟨.inl ⟨0xFF, .inr rfl⟩, .inr rfl, rfl, rfl, rfl, rfl, rfl⟩

theorem witness_NoPinWriteWhileUndriven : (sReset cfgT).drv = false ∧ holdsOk (sReset cfgT).cfg = true ∧
    (let s := { sStream cfgT 7 3 bufP2 with drv := false };
      s.drv = false ∧ s.prog = some .display ∧ s.bcnt < frameBytes s.cfg) := by decide

theorem witness_WireFrameOnThePins : sBus.drv = true := rfl
theorem witness_PanelCommandsOnThePins : sBus.drv = true := rfl
theorem witness_MessagesOnThePins : sBus.drv = true ∧ sBus.cfg.sleepPayload ≠ [] ∧
    (let s := { sBus with cfg := { cfgT with sleepPayload := [] } }; s.drv = true ∧ s.cfg.sleepPayload = []) := by decide

theorem witness_RstwEffect : sBus.drv = true ∧ (sReset cfgT).drv = false := ⟨rfl, rfl⟩
theorem witness_HardresetEffect : (sBus.drv = true ∧ sBus.cfg.tRstHi1 = 20 ∧ sBus.cfg.tRstLo = 1 ∧
    sBus.cfg.tRstHi2 = 20) ∧ ((sReset cfgT).drv = false ∧ (sReset cfgT).cfg.tRstHi1 = 20 ∧
    (sReset cfgT).cfg.tRstLo = 1 ∧ (sReset cfgT).cfg.tRstHi2 = 20) := by decide
/-- One hold just too short, for each hold; and the shortest and a longer hold that are kept. -/
theorem witness_ShortResetHoldsAreRefused :
    ({ cfgT with tRstHi1 := 19 } : Config).tRstHi1 < 20 ∧ ({ cfgT with tRstLo := 0 } : Config).tRstLo < 1 ∧
    ({ cfgT with tRstHi2 := 19 } : Config).tRstHi2 < 20 ∧
    (20 ≤ sBus.cfg.tRstHi1 ∧ 1 ≤ sBus.cfg.tRstLo ∧ 20 ≤ sBus.cfg.tRstHi2 ∧ sBus.drv = true) ∧
    (let s := { sBus with cfg := { cfgT with tRstHi2 := 300 } };
      20 ≤ s.cfg.tRstHi1 ∧ 1 ≤ s.cfg.tRstLo ∧ 20 ≤ s.cfg.tRstHi2 ∧ s.drv = true) := by decide

theorem belowBound_of_none {c : Config} (h : c.busyTimeout = none) (n : Nat) : belowBound c n := by
  intro b hb; rw [h] at hb; cases hb

theorem belowBound_three {n : Nat} (h : n < 3) : belowBound cfgBound n := by
  intro b hb; cases hb; exact h

/-- A poll read high; a busy poll without a bound; the last busy poll below a bound of three. -/
theorem witness_WaitrdyPollsOnce :
    (withPins (line true) sBus).pins.rdy = true ∧
    ((withPins (line false) sBus).pins.rdy = false ∧ (withPins (line false) sBus).inWait = false ∧ belowBound cfgT (0 + 1)) ∧
    (let s := { withPins (line false) (sAt cfgBound .init 3 .unconfigured .initWait) with inWait := true, pcnt := 1 };
      s.pins.rdy = false ∧ (if s.inWait then s.pcnt else 0) = 1 ∧ belowBound s.cfg (1 + 1)) :=
  ⟨rfl, ⟨rfl, rfl, belowBound_of_none rfl _⟩, rfl, rfl, belowBound_three (by decide)⟩

theorem witness_BusyTimeoutEndsTheOperation :
    (let s := { withPins (line false) (sAt cfgBound .display 5 .ready .poweringOn) with inWait := true, pcnt := 2 };
      s.cfg.busyTimeout = some 3 ∧ s.prog = some .display ∧ s.pins.rdy = false ∧
      3 = (if s.inWait then s.pcnt else 0) + 1 ∧ 3 ≤ 3) ∧
    (let s := withPins (line false) (sAt { cfgT with busyTimeout := some 1 } .init 3 .unconfigured .initWait);
      s.cfg.busyTimeout = some 1 ∧ s.prog = some .init ∧ s.pins.rdy = false ∧
      1 = (if s.inWait then s.pcnt else 0) + 1 ∧ 1 ≤ 1) := by decide

theorem noReset_replicate (n : Nat) (r : Bool) : noReset (List.replicate n (line r)) := by
  intro p hp; rw [List.eq_of_mem_replicate hp]; rfl

theorem allBusy_replicate (n : Nat) : allBusy (List.replicate n (line false)) := by
  intro p hp; rw [List.eq_of_mem_replicate hp]; rfl

/-- W1 (no busy poll) and W4 (two, below a bound of three). -/
theorem witness_CompletedBarrierTrace :
    (let s := sAt cfgT .display 5 .ready .poweringOn;
      s.prog = some .display ∧ (s.rom.words .display)[s.upc]? = some 0x800 ∧ s.inWait = false ∧
      noReset [] ∧ allBusy [] ∧ belowBound s.cfg 0 ∧ (line true).rst = false ∧ (line true).rdy = true) ∧
    (let s := sAt cfgBound .init 3 .unconfigured .initWait;
      s.prog = some .init ∧ (s.rom.words .init)[s.upc]? = some 0x800 ∧ s.inWait = false ∧
      noReset (List.replicate 2 (line false)) ∧ allBusy (List.replicate 2 (line false)) ∧ belowBound s.cfg 2) :=
  ⟨⟨rfl, rfl, rfl, noReset_replicate 0 true, allBusy_replicate 0, belowBound_of_none rfl _, rfl, rfl⟩,
    rfl, rfl, rfl, noReset_replicate 2 false, allBusy_replicate 2, belowBound_three (by decide)⟩

theorem witness_StuckBusyLineHangs :
    let s := sAt cfgT .init 3 .unconfigured .initWait;
    s.prog = some .init ∧ (s.rom.words .init)[s.upc]? = some 0x800 ∧ s.cfg.busyTimeout = none ∧
    noReset (List.replicate 9 (line false)) ∧ allBusy (List.replicate 9 (line false)) :=
  ⟨rfl, rfl, rfl, noReset_replicate 9 false, allBusy_replicate 9⟩

theorem witness_EndEffect : (sAt cfgT .init 11 .unconfigured .initReplay).prog = some .init ∧
    (sAt cfgT .display 14 .ready .poweringOff).prog = some .display ∧
    (sAt cfgT .sleep 4 .ready .sleeping).prog = some .sleep := ⟨rfl, rfl, rfl⟩

theorem witness_PhaseEffect : 8 < (9 : Nibble).toNat ∧ phaseCode .sleeping = 8 := by decide

theorem witness_ConverterMapsClampsAndWarns : Colour.orange ≠ .clean ∧ 6 < (7 : Nibble).toNat ∧
    6 < (15 : Nibble).toNat ∧ ¬ 6 < (6 : Nibble).toNat := by decide

/-- The first byte; the last byte of a chunk; the last byte of the frame; a byte with two warnings. -/
theorem witness_StreamSendsOneByte :
    (let s := sStream cfgT 0 0 bufP2; s.prog = some .display ∧ s.drv = true ∧ s.bcnt < frameBytes s.cfg ∧
      conv s.cfg.encoding (s.fb.read s.bcnt) = (0x33, [])) ∧
    (let s := sStream cfgT 3 3 bufP2; s.prog = some .display ∧ s.drv = true ∧ s.bcnt < frameBytes s.cfg ∧
      conv s.cfg.encoding (s.fb.read s.bcnt) = (0x47, []) ∧ s.ccnt + 1 = chunkBytes s.cfg) ∧
    (let s := sStream cfgT 7 3 bufP2; s.prog = some .display ∧ s.drv = true ∧ s.bcnt < frameBytes s.cfg ∧
      conv s.cfg.encoding (s.fb.read s.bcnt) = (0x88, []) ∧ s.bcnt + 1 = frameBytes s.cfg) ∧
    (let s := sStream cfgLut 0 0 [0xFF]; s.prog = some .display ∧ s.drv = true ∧ s.bcnt < frameBytes s.cfg ∧
      conv s.cfg.encoding (s.fb.read s.bcnt) = (0x00, [15, 15])) := by decide

/-- The events of the whole stream of P7's first bytes: a warning before its frame, a yield at the end of the chunk. -/
theorem test_stream_events : (streamEvents cfgLut (Memory.ofBytes [0x11, 0x26, 0x17, 0x90])).drop 8 =
    [.warn 7, .dcW .data, .csW .low, .byte 0x30, .csW .high, .warn 9, .dcW .data, .csW .low, .byte 0x00, .csW .high, .yield] ++
    (List.replicate 4 [.dcW .data, .csW .low, .byte 0x00, .csW .high]).flatten ++ [.yield] := by decide

theorem witness_StreamWithoutBytesMovesOn :
    (let s := sStream cfgT 8 0 bufP2; s.prog = some .display ∧ frameBytes s.cfg ≤ s.bcnt) ∧
    (sAt cfgT .init 3 .unconfigured .initWait).prog ≠ some .display := by decide

/-- One byte before the end of a chunk of the first machine, not of the second. -/
theorem witness_ChunkSizeIsUnobservable :
    (∃ t, exec .stream (sStream cfgT 3 3 bufP2) = .next t) ∧
    (∃ u, exec .stream { sStream cfgT 3 3 bufP2 with cfg := { cfgT with chunkRows := 7 }, ccnt := 3 } = .next u) :=
  ⟨⟨_, rfl⟩, _, rfl⟩

theorem witness_StreamSendsTheWholeFrame :
    let s := sStream cfgT 0 0 bufP2;
    s.prog = some .display ∧ (s.rom.words .display)[s.upc]? = some 0xB00 ∧ s.drv = true ∧ s.bcnt = 0 ∧ s.ccnt = 0 ∧
    0 < frameBytes s.cfg ∧ s.cfg.width % 2 = 0 ∧ 1 ≤ s.cfg.chunkRows ∧
    noReset (List.replicate 8 (line false)) ∧ (List.replicate 8 (line false)).length = frameBytes s.cfg :=
  ⟨rfl, rfl, rfl, rfl, rfl, by decide, rfl, by decide, noReset_replicate 8 false, rfl⟩

/-- The last pixel of the panel; two places that are the same pixel, and none other. -/
theorem witness_EveryPixelHasItsOwnNibble : cfgT.width % 2 = 0 ∧ (3 < cfgT.width ∧ 3 < cfgT.height) ∧
    (3 < cfgT.width ∧ 3 < cfgT.width ∧ pixelOffset cfgT 3 2 = pixelOffset cfgT 3 2 ∧ 3 % 2 = 3 % 2) := by decide

theorem witness_ReservedRequestIsBadOp : (sIdle cfgT .asleep).phase = .idle := rfl

theorem witness_InitializeStartsTheSequence :
    let s := withPins (ask 1 0 true) (sIdle cfgT .asleep); s.phase = .idle ∧ s.pins.cfgOk = true := ⟨rfl, rfl⟩

theorem witness_SetupFailureIsPrecise :
    let s := withPins (ask 1 0 false) (sIdle cfgT .ready); s.phase = .idle ∧ s.pins.cfgOk = false := ⟨rfl, rfl⟩

theorem witness_DisplayframeAdmitted :
    let s := withPins (ask 2 8 true) (sIdle cfgT .ready);
    s.phase = .idle ∧ s.mode = .ready ∧ s.pins.reqLen.toNat = frameBytes s.cfg := ⟨rfl, rfl, rfl⟩

/-- Both rejecting modes; one byte too few and one too many. -/
theorem witness_DisplayframeRejections :
    ((sIdle cfgT .asleep).phase = .idle ∧ (sIdle cfgT .asleep).mode = .asleep) ∧
    ((sReset cfgT).phase = .idle ∧ (sReset cfgT).mode = .unconfigured) ∧
    (let s := withPins (ask 2 7 true) (sIdle cfgT .ready);
      s.phase = .idle ∧ s.mode = .ready ∧ s.pins.reqLen.toNat ≠ frameBytes s.cfg) ∧
    (let s := withPins (ask 2 9 true) (sIdle cfgT .ready);
      s.phase = .idle ∧ s.mode = .ready ∧ s.pins.reqLen.toNat ≠ frameBytes s.cfg) := by decide

theorem witness_SleepAdmission :
    ((sIdle cfgT .ready).phase = .idle ∧ (sIdle cfgT .ready).mode = .ready) ∧
    ((sReset cfgT).phase = .idle ∧ (sReset cfgT).mode = .unconfigured) ∧
    ((sIdle cfgT .asleep).phase = .idle ∧ (sIdle cfgT .asleep).mode = .asleep) ∧
    ((sIdle cfgT .reserved).phase = .idle ∧ (sIdle cfgT .reserved).mode = .reserved) := by decide

/-- P1: one busy poll. -/
theorem witness_InitializeReplaysTheTableExactly :
    let s := sReset cfgT; let r := ask 1 0 true; let q := line true;
    s.prog = none ∧ s.phase = .idle ∧ s.rom = Rom.ofConfig s.cfg ∧
    s.cfg.tRstHi1 = 20 ∧ s.cfg.tRstLo = 1 ∧ s.cfg.tRstHi2 = 20 ∧
    r.rst = false ∧ r.reqValid = true ∧ r.reqOp = 0b01 ∧ r.cfgOk = true ∧
    noReset (List.replicate 3 q) ∧ (List.replicate 3 q).length = 3 ∧ noReset (List.replicate 1 (line false)) ∧
    allBusy (List.replicate 1 (line false)) ∧ belowBound s.cfg (List.replicate 1 (line false)).length ∧
    q.rst = false ∧ q.rdy = true ∧ noReset (List.replicate 8 q) ∧
    (List.replicate 8 q).length = (tableFrames s.cfg).length + 2 :=
  ⟨rfl, rfl, rfl, rfl, rfl, rfl, rfl, rfl, rfl, rfl, noReset_replicate 3 true, rfl, noReset_replicate 1 false,
    allBusy_replicate 1, belowBound_of_none rfl _, rfl, rfl, noReset_replicate 8 true, rfl⟩

/-- P2: none, two and no busy polls at the three barriers. -/
theorem witness_DisplayframeSendsExactlyTheseFrames :
    let s := sIdle cfgT .ready; let r := ask 2 8 true; let q := line true;
    s.prog = none ∧ s.phase = .idle ∧ s.mode = .ready ∧ s.drv = true ∧ s.rom = Rom.ofConfig s.cfg ∧
    0 < frameBytes s.cfg ∧
    r.rst = false ∧ r.reqValid = true ∧ r.reqOp = 0b10 ∧ r.reqLen.toNat = frameBytes s.cfg ∧
    noReset (List.replicate 12 q) ∧ (List.replicate 12 q).length = 2 + frameBytes s.cfg + 2 ∧
    (noReset (List.replicate 0 (line false)) ∧ allBusy (List.replicate 0 (line false)) ∧
      belowBound s.cfg (List.replicate 0 (line false)).length) ∧
    (noReset (List.replicate 2 (line false)) ∧ allBusy (List.replicate 2 (line false)) ∧
      belowBound s.cfg (List.replicate 2 (line false)).length) ∧
    noReset (List.replicate 3 q) ∧ (List.replicate 3 q).length = 3 ∧ q.rst = false ∧ q.rdy = true :=
  ⟨rfl, rfl, rfl, rfl, rfl, by decide, rfl, rfl, rfl, rfl, noReset_replicate 12 true, rfl,
    ⟨noReset_replicate 0 false, allBusy_replicate 0, belowBound_of_none rfl _⟩,
    ⟨noReset_replicate 2 false, allBusy_replicate 2, belowBound_of_none rfl _⟩, noReset_replicate 3 true, rfl, rfl, rfl⟩

/-- P3 (a). -/
theorem witness_SleepDropsTheResetLine :
    let s := sIdle cfgT .ready; let r := ask 3 0 true;
    s.prog = none ∧ s.phase = .idle ∧ s.mode = .ready ∧ s.drv = true ∧ s.rom = Rom.ofConfig s.cfg ∧
    r.rst = false ∧ r.reqValid = true ∧ r.reqOp = 0b11 ∧
    noReset (List.replicate 5 (line false)) ∧
    (List.replicate 5 (line false)).length = 4 + s.cfg.sleepPayload.length :=
  ⟨rfl, rfl, rfl, rfl, rfl, rfl, rfl, rfl, noReset_replicate 5 false, rfl⟩

/-- A consistent state in the middle of a DISPLAYFRAME. -/
theorem consistent_running : Consistent (sAt cfgT .display 5 .ready .poweringOn) where
  romFixed := rfl
  holds := rfl
  modeLegal := by decide
  undriven := by decide
  selectHigh := by decide
  notFresh := rfl
  idle := by decide
  running := by intro p hp; cases hp; decide

/-- A consistent state in which nothing runs. -/
theorem consistent_idle : Consistent (sReset cfgT) where
  romFixed := rfl
  holds := rfl
  modeLegal := by decide
  undriven := by decide
  selectHigh := by decide
  notFresh := rfl
  idle := by decide
  running := by intro p hp; cases hp

/-- A busy state; a consistent one with a request on the port; an idle consistent one; and a state that no well-formed
micro-program reaches, Idle while one runs (42 R148). -/
theorem witness_RequestWhileBusyIsNotTaken :
    sBus.phase ≠ .idle ∧
    (Consistent (sAt cfgT .display 5 .ready .poweringOn) ∧ (sAt cfgT .display 5 .ready .poweringOn).prog = some .display) ∧
    ((withPins (ask 1 0 true) sBus).pins.rst = false ∧ (withPins (ask 1 0 true) sBus).prog = some .display) ∧
    (let s := withPins (ask 1 0 true) (sAt cfgT .display 5 .ready .idle);
      s.pins.rst = false ∧ s.prog = some .display ∧ s.reqReady = true) ∧
    (Consistent (sReset cfgT) ∧ (sReset cfgT).prog = none) :=
  ⟨by decide, ⟨consistent_running, rfl⟩, ⟨rfl, rfl⟩, ⟨rfl, rfl, rfl⟩, consistent_idle, rfl⟩

theorem witness_ConsistentStatesNeverStop : Consistent (sAt cfgT .display 5 .ready .poweringOn) := consistent_running

/-- A step of a machine whose trace is well framed. -/
theorem witness_EveryStepKeepsTheTraceWellFramed :
    Framed { sBus with trace := [.dcW .data], dcFresh := true } ∧
    ∃ t, step { sBus with trace := [.dcW .data], dcFresh := true } = .next t := ⟨rfl, _, rfl⟩

theorem witness_EveryStepKeepsTheSession :
    let s := { sAt cfgT .display 5 .ready .poweringOn with trace := [.cfg] };
    Consistent s ∧ SessionKept s ∧ ∃ t, step s = .next t :=
  ⟨{ consistent_running with }, rfl, _, rfl⟩

theorem witness_EveryStepKeepsMemoryAndCounters :
    (∃ t, step (sStream cfgLut 3 3 [0xFF, 0xFF, 0xFF, 0xFF]) = .next t) ∧
    MemoryCanonical (sStream cfgLut 3 3 [0xFF, 0xFF, 0xFF, 0xFF]) ∧
    CountersInRange (sStream cfgLut 3 3 [0xFF, 0xFF, 0xFF, 0xFF]) :=
  ⟨⟨_, rfl⟩, ⟨rfl, rfl⟩, by unfold CountersInRange; decide⟩

theorem witness_ModeChangesOnlyAsListed : ∃ t, exec .endOp (sAt cfgT .sleep 4 .ready .sleeping) = .next t := ⟨_, rfl⟩

theorem witness_RegistersAreWrittenOnlyByTheirRules : ∃ t, exec .stream (sStream cfgT 7 3 bufP2) = .next t := ⟨_, rfl⟩

theorem witness_GhostStateIsNeverRead : (∃ t, exec .waitrdy (withPins (line false) sBus) = .next t) ∧
    (withPins (line false) sBus).pins.rst = false ∧ (withPins resetLine sBus).pins.rst = true := ⟨⟨_, rfl⟩, rfl, rfl⟩

end Sys2Proof.Tests
end

namespace Sys2Proof.Machine

/-! ### The reset state (10 R40) -/

theorem reset_consistent : Consistent State.reset where
  romFixed := rfl
  holds := rfl
  modeLegal := nofun
  undriven := fun _ => ⟨rfl, rfl, rfl, rfl, rfl⟩
  selectHigh := nofun
  notFresh := rfl
  idle := fun _ => ⟨rfl, rfl, rfl, rfl⟩
  running := nofun

/-- The one bound that is strict needs a chunk of at least one byte: 10 rows of 400 bytes. -/
theorem reset_countersInRange : CountersInRange State.reset := by
  have hchunk : 0 < chunkBytes State.reset.cfg := by decide
  exact ⟨Nat.zero_le _, hchunk, Nat.le_refl 0, Nat.zero_le _⟩

/-- Settles O53, invariant by invariant. -/
theorem resetMeetsTheInvariants : Obligations.ResetMeetsTheInvariants :=
  ⟨reset_consistent, rfl, State.reset_memory_wf, reset_countersInRange, rfl⟩

/-! ### Every operation keeps the trace well framed (00 R11, 40 R106)

Between steps no select window is open, so a reader of the trace stands at one of two points, told apart by
`dc_fresh`. An operation keeps `Framed` when its events lead from the point of the old state to that of the new.
`Framed` reads the trace and `dc_fresh` only, so an operation that writes neither keeps it by definition. -/

/-- A state whose trace is a well-framed one with events appended is well framed if the reader gets through these
events and ends where `dc_fresh` says. -/
theorem Framed.append {s t : State} (hs : Framed s) (es : List Event) (htrace : t.trace = s.trace ++ es)
    (hread : Scan.events { inWindow := false, sent := false, fresh := s.dcFresh } es =
      some { inWindow := false, sent := false, fresh := t.dcFresh }) : Framed t := by
  have hs : Scan.start.events s.trace = _ := hs
  simp [Framed, htrace, Scan.events_append, hs, hread]

theorem Framed.wellFramed {s : State} (hs : Framed s) : wellFramed s.trace = true := by
  have hs : Scan.start.events s.trace = _ := hs
  simp [Machine.wellFramed, hs]

theorem Framed.advance {s : State} (hs : Framed s) : Framed s.advance := hs

theorem Framed.sample {s : State} (hs : Framed s) : Framed s.sample := hs

theorem framed_blockReset (s : State) : Framed s.blockReset := rfl

theorem Framed.select {s : State} (hs : Framed s) (m : DcMode) : Framed (s.select m) :=
  hs.append [.dcW m] rfl rfl

/-- The byte of a select window needs a discriminator write of its own, which `dc_fresh` shows. -/
theorem Framed.transfer {s : State} (hs : Framed s) (hfresh : s.dcFresh = true) (v : Byte) :
    Framed (s.transfer v) := by
  refine hs.append [.csW .low, .byte v, .csW .high] (by simp [State.transfer, State.clearFresh]) ?_
  rw [hfresh]
  rfl

theorem Framed.sendFrame {s : State} (hs : Framed s) (f : Frame) : Framed (s.sendFrame f) :=
  (hs.select f.1).transfer rfl f.2

theorem Framed.sendFrames {s : State} (hs : Framed s) (fs : List Frame) : Framed (State.sendFrames fs s) := by
  induction fs generalizing s with
  | nil => exact hs
  | cons f fs ih => exact ih (hs.sendFrame f)

theorem Framed.setRst {s : State} (hs : Framed s) (l : Level) : Framed (s.setRst l) :=
  hs.append [.rstW l] rfl rfl

theorem Framed.hold {s : State} (hs : Framed s) (d : Nat) : Framed (s.hold d) := hs.append [.wait d] rfl rfl

theorem Framed.pause {s : State} (hs : Framed s) : Framed s.pause := hs.append [.yield] rfl rfl

theorem Framed.poll {s : State} (hs : Framed s) : Framed s.poll := hs.append [.poll s.pins.rdy] rfl rfl

theorem Framed.resetPulse {s : State} (hs : Framed s) : Framed s.resetPulse :=
  (((((hs.setRst _).hold _).setRst _).hold _).setRst _).hold _

theorem Framed.reject {s : State} (hs : Framed s) (op : HostOp) (st : Status) : Framed (s.reject op st) :=
  hs.append [.done op st] rfl rfl

theorem Framed.finish {s : State} (hs : Framed s) (op : HostOp) (st : Status) : Framed (s.finish op st) :=
  hs.append [.done op st] rfl rfl

theorem Framed.abort {s : State} (hs : Framed s) (op : HostOp) (st : Status) : Framed (s.abort op st) :=
  hs.finish op st

/-- A warning stands outside a window and is no discriminator write. -/
theorem Scan.events_warns (ws : List Nibble) (fresh : Bool) :
    Scan.events { inWindow := false, sent := false, fresh := fresh } (ws.map .warn) =
      some { inWindow := false, sent := false, fresh := fresh } := by
  induction ws with
  | nil => rfl
  | cons w ws ih => exact ih

theorem Framed.warn {s : State} (hs : Framed s) (ws : List Nibble) : Framed (s.warn ws) :=
  hs.append (ws.map .warn) rfl (Scan.events_warns ws s.dcFresh)

theorem Framed.configureBus {s : State} (hs : Framed s) : Framed s.configureBus :=
  hs.append [.cfg, .csW .high] s.configureBus_trace rfl

theorem Framed.enterWait {s : State} (hs : Framed s) : Framed s.enterWait := by
  unfold State.enterWait
  split
  · exact hs
  · exact hs

theorem Framed.passBarrier {s : State} (hs : Framed s) : Framed s.passBarrier := hs.poll

theorem Framed.countBusy {s : State} (hs : Framed s) : Framed s.countBusy := hs.poll

theorem Framed.streamByte {s : State} (hs : Framed s) : Framed s.streamByte :=
  (hs.warn (streamConv s).2).sendFrame (.data, (streamConv s).1)

theorem Framed.endChunk {s : State} (hs : Framed s) : Framed s.endChunk := by
  unfold State.endChunk
  split
  · exact hs.pause
  · exact hs

theorem Framed.endStream {s : State} (hs : Framed s) : Framed s.endStream := by
  unfold State.endStream
  split
  · exact hs.advance
  · exact hs

theorem Framed.beginInit {s : State} (hs : Framed s) : Framed s.beginInit := by
  have hmode : Framed { s with mode := .unconfigured } := hs
  unfold State.beginInit
  split
  · exact hmode.configureBus
  · exact hmode.abort _ _

/-! ### Every instruction keeps the trace well framed -/

/-- DISPLAYFRAME as a request that is taken: begun, or rejected with `NotConfigured` or `BadLength`. -/
theorem Framed.execDisplayframe {s t : State} (hs : Framed s) (h : execDisplayframe s = .next t) : Framed t := by
  obtain ⟨-, h⟩ | ⟨-, rfl⟩ := ifTaken_next h
  · obtain ⟨-, h⟩ | ⟨-, rfl⟩ := ifReady_next h
    · obtain rfl := Host.Outcome.next.inj h
      split
      · exact hs
      · exact hs.reject _ _
    · exact hs.reject _ _
  · exact hs

theorem Framed.execSleep {s t : State} (hs : Framed s) (h : execSleep s = .next t) : Framed t := by
  obtain ⟨-, h⟩ | ⟨-, rfl⟩ := ifTaken_next h
  · obtain ⟨-, h⟩ | ⟨-, rfl⟩ := ifReady_next h
    · obtain rfl := Host.Outcome.next.inj h
      exact hs
    · exact hs.reject _ _
  · exact hs

/-- XFER is the one instruction that sends a byte without a discriminator write of its own; it asks for
`dc_fresh` (40 R102). -/
theorem Framed.execXfer {s t : State} {v : Byte} (hs : Framed s) (h : execXfer v s = .next t) : Framed t := by
  unfold Machine.execXfer at h
  split_ifs at h with hdrv hfresh hcs
  obtain rfl := Host.Outcome.next.inj h
  exact (hs.transfer (by simpa using hfresh) v).advance

theorem Framed.execWaitrdy {s t : State} (hs : Framed s) (h : exec .waitrdy s = .next t) : Framed t := by
  obtain ⟨-, rfl⟩ | ⟨-, -, p, -, rfl⟩ | ⟨-, -, rfl⟩ := execWaitrdy_next h
  · exact hs.enterWait.passBarrier
  · exact hs.enterWait.countBusy.abort _ _
  · exact hs.enterWait.countBusy.pause

theorem Framed.execStream {s t : State} (hs : Framed s) (h : exec .stream s = .next t) : Framed t := by
  obtain ⟨-, ⟨-, rfl⟩ | ⟨-, -, rfl⟩⟩ := execStream_next h
  · exact hs.advance
  · exact hs.streamByte.endChunk.endStream

theorem Framed.execEndOp {s t : State} (hs : Framed s) (h : execEndOp s = .next t) : Framed t := by
  unfold Machine.execEndOp at h
  split at h
  · cases h
  · obtain rfl := Host.Outcome.next.inj h
    exact hs.finish _ _

theorem Framed.execPhase {s t : State} {p : Nibble} (hs : Framed s) (h : execPhase p s = .next t) : Framed t := by
  unfold Machine.execPhase at h
  split at h
  · cases h
  · obtain rfl := Host.Outcome.next.inj h
    exact hs

theorem Framed.execHardreset {s t : State} (hs : Framed s) (h : execHardreset s = .next t) : Framed t := by
  unfold Machine.execHardreset at h
  split at h
  · obtain ⟨-, rfl⟩ := ifDriven_next h
    exact hs.resetPulse.advance
  · cases h

theorem Framed.exec {i : Instr} {s t : State} (hs : Framed s) (h : exec i s = .next t) : Framed t := by
  cases i with
  | hostopReserved =>
    obtain ⟨-, h⟩ | ⟨-, rfl⟩ := ifTaken_next h
    · obtain rfl := Host.Outcome.next.inj h
      exact hs.reject _ _
    · exact hs
  | initializeOp =>
    obtain ⟨-, h⟩ | ⟨-, rfl⟩ := ifTaken_next h
    · obtain rfl := Host.Outcome.next.inj h
      exact hs.beginInit
    · exact hs
  | displayframe => exact hs.execDisplayframe h
  | sleep => exact hs.execSleep h
  | endOp => exact hs.execEndOp h
  | setcmd => obtain ⟨-, rfl⟩ := ifDriven_next h; exact (hs.select _).advance
  | setdat => obtain ⟨-, rfl⟩ := ifDriven_next h; exact (hs.select _).advance
  | xfer v => exact hs.execXfer h
  | cmd c => obtain ⟨-, rfl⟩ := ifDriven_next h; exact (hs.sendFrame _).advance
  | dat d => obtain ⟨-, rfl⟩ := ifDriven_next h; exact (hs.sendFrame _).advance
  | rstw l => obtain ⟨-, rfl⟩ := ifDriven_next h; exact (hs.setRst _).advance
  | delay t => obtain rfl := Host.Outcome.next.inj h; exact (hs.hold _).advance
  | waitrdy => exact hs.execWaitrdy h
  | yield => obtain rfl := Host.Outcome.next.inj h; exact hs.pause.advance
  | hardreset => exact hs.execHardreset h
  | stream => exact hs.execStream h
  | phase p => exact hs.execPhase h
  | uopReservedD _ | uopReservedE _ | uopReservedF _ => cases h
  | wireCmd _ | wireData _ | frameStart | powerOn | refresh | powerOff | deepSleep | initEntry _ _
  | pixelData _ _ =>
    obtain ⟨-, rfl⟩ := exec_wire_next rfl h
    exact hs.sendFrames _

theorem Framed.step {s t : State} (hs : Framed s) (h : step s = .next t) : Framed t := by
  obtain ⟨u, rfl, hcases⟩ := step_cases h
  obtain ⟨-, rfl⟩ | ⟨-, _, _, _, -, -, -, hu⟩ | ⟨-, -, -, hu⟩ | ⟨-, -, -, rfl⟩ := hcases
  · exact (framed_blockReset s).sample
  · exact (hs.exec hu).sample
  · exact (hs.exec hu).sample
  · exact hs.sample

/-- Settles O54: whatever a step does, it is built of operations that keep the trace well framed. -/
theorem everyStepKeepsTheTraceWellFramed : Obligations.EveryStepKeepsTheTraceWellFramed :=
  fun _ _ hs h => ⟨hs.step h, (hs.step h).wellFramed⟩

/-! ### No rule reads the open parameters (00 R7)

Every operation commutes with `State.withOpen`: by `rfl` where it is a record update. A test that chooses between
operations is, by definition, the same test in both states, so it is enough to push the change into the branches
(`apply_ite`) and to compare these. -/

@[simp] theorem State.withOpen_mode (o : Config) (s : State) : (s.withOpen o).mode = s.mode := rfl
@[simp] theorem State.withOpen_prog (o : Config) (s : State) : (s.withOpen o).prog = s.prog := rfl
@[simp] theorem fetchWord_withOpen (o : Config) (p : Prog) (s : State) :
    fetchWord p (s.withOpen o) = fetchWord p s := rfl

@[simp] theorem mapNext_next (f : State → State) (s : State) : mapNext f (.next s) = .next (f s) := rfl

theorem ifDriven_withOpen (o : Config) (s t : State) :
    ifDriven (s.withOpen o) (t.withOpen o) = mapNext (State.withOpen o) (ifDriven s t) := by
  unfold ifDriven
  rw [apply_ite (mapNext (State.withOpen o))]
  rfl

theorem ifTaken_withOpen (o : Config) (s : State) (r : Host.Outcome State Fault Refusal) :
    ifTaken (s.withOpen o) (mapNext (State.withOpen o) r) = mapNext (State.withOpen o) (ifTaken s r) := by
  unfold ifTaken
  rw [apply_ite (mapNext (State.withOpen o))]
  rfl

theorem ifReady_withOpen (o : Config) (op : HostOp) (s : State) (r : Host.Outcome State Fault Refusal) :
    ifReady op (s.withOpen o) (mapNext (State.withOpen o) r) = mapNext (State.withOpen o) (ifReady op s r) := by
  unfold ifReady
  rw [State.withOpen_mode]
  cases s.mode <;> rfl

theorem thenSample_withOpen (o : Config) (r : Host.Outcome State Fault Refusal) :
    thenSample (mapNext (State.withOpen o) r) = mapNext (State.withOpen o) (thenSample r) := by
  cases r <;> rfl

theorem State.sendFrames_withOpen (o : Config) (fs : List Frame) (s : State) :
    State.sendFrames fs (s.withOpen o) = (State.sendFrames fs s).withOpen o := by
  induction fs generalizing s with
  | nil => rfl
  | cons f fs ih => exact ih (s.sendFrame f)

theorem State.beginInit_withOpen (o : Config) (s : State) : (s.withOpen o).beginInit = s.beginInit.withOpen o := by
  unfold State.beginInit
  rw [apply_ite (State.withOpen o)]
  rfl

theorem State.enterWait_withOpen (o : Config) (s : State) : (s.withOpen o).enterWait = s.enterWait.withOpen o := by
  unfold State.enterWait
  rw [apply_ite (State.withOpen o)]
  rfl

theorem State.endChunk_withOpen (o : Config) (s : State) : (s.withOpen o).endChunk = s.endChunk.withOpen o := by
  unfold State.endChunk
  rw [apply_ite (State.withOpen o)]
  rfl

theorem State.endStream_withOpen (o : Config) (s : State) : (s.withOpen o).endStream = s.endStream.withOpen o := by
  unfold State.endStream
  rw [apply_ite (State.withOpen o)]
  rfl

theorem execWaitrdy_withOpen (o : Config) (s : State) :
    execWaitrdy (s.withOpen o) = mapNext (State.withOpen o) (execWaitrdy s) := by
  simp only [execWaitrdy, State.enterWait_withOpen, State.withOpen_prog, apply_ite (mapNext (State.withOpen o))]
  cases s.prog <;> rfl

theorem execStream_withOpen (o : Config) (s : State) :
    execStream (s.withOpen o) = mapNext (State.withOpen o) (execStream s) := by
  have hbyte : (s.withOpen o).streamByte.endChunk.endStream = s.streamByte.endChunk.endStream.withOpen o := by
    rw [← State.endStream_withOpen, ← State.endChunk_withOpen]
    rfl
  simp only [execStream, hbyte, ifDriven_withOpen, apply_ite (mapNext (State.withOpen o))]
  rfl

theorem execHardreset_withOpen (o : Config) (s : State) :
    execHardreset (s.withOpen o) = mapNext (State.withOpen o) (execHardreset s) := by
  simp only [execHardreset, apply_ite (mapNext (State.withOpen o)), ← ifDriven_withOpen]
  rfl

theorem execXfer_withOpen (o : Config) (v : Byte) (s : State) :
    execXfer v (s.withOpen o) = mapNext (State.withOpen o) (execXfer v s) := by
  simp only [execXfer, apply_ite (mapNext (State.withOpen o))]
  rfl

theorem execDisplayframe_withOpen (o : Config) (s : State) :
    execDisplayframe (s.withOpen o) = mapNext (State.withOpen o) (execDisplayframe s) := by
  simp only [execDisplayframe, ← ifTaken_withOpen, ← ifReady_withOpen, mapNext_next, apply_ite (State.withOpen o)]
  rfl

theorem execSleep_withOpen (o : Config) (s : State) :
    execSleep (s.withOpen o) = mapNext (State.withOpen o) (execSleep s) := by
  unfold execSleep
  rw [← ifTaken_withOpen, ← ifReady_withOpen]
  rfl

theorem execInitialize_withOpen (o : Config) (s : State) :
    execInitialize (s.withOpen o) = mapNext (State.withOpen o) (execInitialize s) := by
  unfold execInitialize
  rw [← ifTaken_withOpen, State.beginInit_withOpen]
  rfl

theorem execEndOp_withOpen (o : Config) (s : State) :
    execEndOp (s.withOpen o) = mapNext (State.withOpen o) (execEndOp s) := by
  unfold execEndOp
  rw [State.withOpen_prog]
  cases s.prog <;> rfl

theorem execPhase_withOpen (o : Config) (p : Nibble) (s : State) :
    execPhase p (s.withOpen o) = mapNext (State.withOpen o) (execPhase p s) := by
  unfold execPhase
  cases phaseOfCode p <;> rfl

theorem sendOnWire_withOpen (o : Config) (fs : List Frame) (s : State) :
    sendOnWire fs (s.withOpen o) = mapNext (State.withOpen o) (sendOnWire fs s) := by
  unfold sendOnWire
  rw [State.sendFrames_withOpen, ifDriven_withOpen]

theorem exec_withOpen (o : Config) (i : Instr) (s : State) :
    exec i (s.withOpen o) = mapNext (State.withOpen o) (exec i s) := by
  cases i with
  | hostopReserved => exact ifTaken_withOpen o s (.next (s.reject .reserved .badOp))
  | initializeOp => exact execInitialize_withOpen o s
  | displayframe => exact execDisplayframe_withOpen o s
  | sleep => exact execSleep_withOpen o s
  | endOp => exact execEndOp_withOpen o s
  | setcmd => exact ifDriven_withOpen o s (s.select .cmd).advance
  | setdat => exact ifDriven_withOpen o s (s.select .data).advance
  | xfer v => exact execXfer_withOpen o v s
  | cmd c => exact ifDriven_withOpen o s (s.sendFrame (.cmd, c)).advance
  | dat d => exact ifDriven_withOpen o s (s.sendFrame (.data, d)).advance
  | rstw l => exact ifDriven_withOpen o s (s.setRst l).advance
  | waitrdy => exact execWaitrdy_withOpen o s
  | hardreset => exact execHardreset_withOpen o s
  | stream => exact execStream_withOpen o s
  | phase p => exact execPhase_withOpen o p s
  | delay _ | yield | uopReservedD _ | uopReservedE _ | uopReservedF _ => rfl
  | wireCmd _ | wireData _ | frameStart | powerOn | refresh | powerOff | deepSleep | initEntry _ _
  | pixelData _ _ => exact sendOnWire_withOpen o _ s

theorem runUop_withOpen (o : Config) (p : Prog) (s : State) :
    runUop p (s.withOpen o) = mapNext (State.withOpen o) (runUop p s) := by
  unfold runUop
  rw [fetchWord_withOpen]
  cases fetchWord p s with
  | none => rfl
  | some w =>
    dsimp only
    cases decodeUop w with
    | error e => rfl
    | ok i => exact exec_withOpen o i s

theorem runRequest_withOpen (o : Config) (s : State) :
    runRequest (s.withOpen o) = mapNext (State.withOpen o) (runRequest s) := by
  simp only [runRequest, apply_ite (mapNext (State.withOpen o)), ← exec_withOpen]
  rfl

theorem runOnce_withOpen (o : Config) (s : State) :
    runOnce (s.withOpen o) = mapNext (State.withOpen o) (runOnce s) := by
  unfold runOnce
  rw [State.withOpen_prog]
  cases s.prog with
  | none => exact runRequest_withOpen o s
  | some p => exact runUop_withOpen o p s

theorem step_withOpen (o : Config) (s : State) :
    step (s.withOpen o) = mapNext (State.withOpen o) (step s) := by
  simp only [step, stepOnce, ← thenSample_withOpen, apply_ite (mapNext (State.withOpen o)), ← runOnce_withOpen]
  rfl

/-- Settles O60: the step is built of operations that commute with a change of the open parameters. -/
theorem openParametersAreNeverRead : Obligations.OpenParametersAreNeverRead := fun s o => step_withOpen o s

end Sys2Proof.Machine

namespace Sys2Proof.Machine

/-! ### What a step is, by its inputs and by the program that runs (42 R150, 44 R199, 70 R261) -/

theorem step_of_rst {s : State} (hrst : s.pins.rst = true) : step s = .next s.blockReset.sample := by
  simp [step, stepOnce, hrst]

theorem step_of_not_rst {s : State} (hrst : s.pins.rst = false) : step s = thenSample (runOnce s) := by
  simp [step, stepOnce, hrst]

theorem step_of_prog {s : State} {p : Prog} (hrst : s.pins.rst = false) (hp : s.prog = some p) :
    step s = thenSample (runUop p s) := by
  simp [step_of_not_rst hrst, runOnce, hp]

theorem runUop_of_word {s : State} {p : Prog} {w : UopWord} {i : Instr} (hw : (s.rom.words p)[s.upc]? = some w)
    (hi : decodeUop w = .ok i) : runUop p s = exec i s := by
  simp [runUop, fetchWord, hw, hi]

theorem step_of_request {s : State} (hrst : s.pins.rst = false) (hp : s.prog = none) (hv : s.pins.reqValid = true) :
    step s = thenSample (exec (decodeHostop s.pins.reqOp) s) := by
  simp [step_of_not_rst hrst, runOnce, runRequest, hp, hv]

theorem step_of_no_request {s : State} (hrst : s.pins.rst = false) (hp : s.prog = none)
    (hv : s.pins.reqValid = false) : step s = .next s.sample := by
  simp [step_of_not_rst hrst, runOnce, runRequest, hp, hv]

/-! ### Requests: taken in `Idle` only, and which of the four a code names (30 R73, 44 R199) -/

theorem ifTaken_of_idle {s : State} (r : Host.Outcome State Fault Refusal) (h : s.phase = .idle) :
    ifTaken s r = r := by
  simp [ifTaken, State.reqReady, h]

theorem ifTaken_of_not_idle {s : State} (r : Host.Outcome State Fault Refusal) (h : s.phase ≠ .idle) :
    ifTaken s r = .next s := by
  simp [ifTaken, State.reqReady, h]

theorem decodeHostop_cases (w : HostWord) :
    decodeHostop w = .hostopReserved ∨ decodeHostop w = .initializeOp ∨ decodeHostop w = .displayframe ∨
      decodeHostop w = .sleep := by
  unfold decodeHostop
  cases decodeHostOp w with
  | reserved => exact .inl rfl
  | initializeOp => exact .inr (.inl rfl)
  | displayframe => exact .inr (.inr (.inl rfl))
  | sleep => exact .inr (.inr (.inr rfl))

/-- INITIALIZE configures the bus and starts `ROM(Init)`, or fails at `cfg_ok` (42 R140, R141). -/
theorem State.beginInit_cases (s : State) :
    s.beginInit = ({ s with mode := .unconfigured } : State).configureBus.beginProgram .init ∨
      s.beginInit = ({ s with mode := .unconfigured } : State).abort .initializeOp .setupFailure := by
  unfold State.beginInit
  split
  · exact .inl rfl
  · exact .inr rfl

/-! ### What each instruction with a guard of its own leaves, when it answers a next state -/

theorem exec_hostopReserved_next {s t : State} (h : exec .hostopReserved s = .next t) :
    t = s ∨ t = s.reject .reserved .badOp := by
  obtain ⟨-, h⟩ | ⟨-, rfl⟩ := ifTaken_next h
  · exact .inr (Host.Outcome.next.inj h).symm
  · exact .inl rfl

theorem exec_initializeOp_next {s t : State} (h : exec .initializeOp s = .next t) : t = s ∨ t = s.beginInit := by
  obtain ⟨-, h⟩ | ⟨-, rfl⟩ := ifTaken_next h
  · exact .inr (Host.Outcome.next.inj h).symm
  · exact .inl rfl

theorem exec_displayframe_next {s t : State} (h : exec .displayframe s = .next t) :
    t = s ∨ (∃ st, t = s.reject .displayframe st) ∨ t = s.beginDisplay := by
  obtain ⟨-, h⟩ | ⟨-, rfl⟩ := ifTaken_next h
  · obtain ⟨-, h⟩ | ⟨-, rfl⟩ := ifReady_next h
    · split at h
      · exact .inr (.inr (Host.Outcome.next.inj h).symm)
      · exact .inr (.inl ⟨_, (Host.Outcome.next.inj h).symm⟩)
    · exact .inr (.inl ⟨_, rfl⟩)
  · exact .inl rfl

theorem exec_sleep_next {s t : State} (h : exec .sleep s = .next t) :
    t = s ∨ t = s.reject .sleep .notConfigured ∨ t = s.beginProgram .sleep := by
  obtain ⟨-, h⟩ | ⟨-, rfl⟩ := ifTaken_next h
  · obtain ⟨-, h⟩ | ⟨-, rfl⟩ := ifReady_next h
    · exact .inr (.inr (Host.Outcome.next.inj h).symm)
    · exact .inr (.inl rfl)
  · exact .inl rfl

/-- END (42 R147). -/
theorem exec_endOp_of_prog {s : State} {p : Prog} (hp : s.prog = some p) :
    exec .endOp s = .next { (s.finish p.op .ok) with mode := modeAfter p s.mode } := by
  simp [exec, execEndOp, hp]

theorem exec_endOp_next {s t : State} (h : exec .endOp s = .next t) :
    ∃ p, s.prog = some p ∧ t = { (s.finish p.op .ok) with mode := modeAfter p s.mode } := by
  cases hp : s.prog with
  | none => simp [exec, execEndOp, hp] at h
  | some p =>
    rw [exec_endOp_of_prog hp] at h
    exact ⟨p, rfl, (Host.Outcome.next.inj h).symm⟩

theorem exec_xfer_next {s t : State} {v : Byte} (h : exec (.xfer v) s = .next t) : t = (s.transfer v).advance := by
  simp only [exec, execXfer] at h
  split_ifs at h
  exact (Host.Outcome.next.inj h).symm

/-- One level of the reset line and its hold (41 R120, R121). -/
theorem State.hold_setRst (l : Level) (d : Nat) (s : State) :
    (s.setRst l).hold d =
      { s with
        rst := some l
        now := s.now + d + freeExcess s.draws
        tmr := 0
        draws := s.draws + 1
        trace := s.trace ++ [.rstW l, .wait d] } := by
  simp [State.hold, State.setRst, State.emit]

/-- The reset pulse, field by field (41 R122). -/
theorem State.resetPulse_eq (s : State) :
    s.resetPulse =
      { s with
        rst := some .high
        now := s.now + s.cfg.tRstHi1 + freeExcess s.draws + s.cfg.tRstLo + freeExcess (s.draws + 1) +
          s.cfg.tRstHi2 + freeExcess (s.draws + 2)
        tmr := 0
        draws := s.draws + 3
        trace := s.trace ++ pulseEvents s.cfg } := by
  simp [State.resetPulse, State.hold_setRst, pulseEvents]

theorem exec_hardreset_next {s t : State} (h : exec .hardreset s = .next t) : t = s.resetPulse.advance := by
  simp only [exec, execHardreset] at h
  split at h
  · exact (ifDriven_next h).2
  · cases h

theorem exec_phase_next {s t : State} {p : Nibble} (h : exec (.phase p) s = .next t) :
    ∃ q, phaseOfCode p = some q ∧ t = ({ s with phase := q } : State).advance := by
  simp only [exec, execPhase] at h
  split at h
  · cases h
  · exact ⟨_, ‹_›, (Host.Outcome.next.inj h).symm⟩

/-- Entering a wait writes `PCNT` only (41 R126). -/
theorem State.enterWait_frame (s : State) : s.enterWait = { s with pcnt := s.enterWait.pcnt } := by
  unfold State.enterWait
  split
  · rfl
  · rfl

/-- The byte of a STREAM step, field by field: the warnings, the data frame, the counts (44 R184). -/
theorem State.streamByte_eq (s : State) :
    s.streamByte =
      { s with
        dc := some .data
        cs := some .high
        ser := s.ser.shiftOut (streamConv s).1
        dcFresh := false
        warnCnt := s.warnCnt + (streamConv s).2.length
        bcnt := s.bcnt + 1
        ccnt := s.ccnt + 1
        trace := s.trace ++ (streamConv s).2.map .warn ++ frameEvents (.data, (streamConv s).1) } := by
  simp [State.streamByte, State.sendFrame_eq, State.warn, State.emit]

/-- A chunk ends in a yield and a cleared `CCNT`, or goes on with `CCNT` below `CHUNK_BYTES` (44 R184). -/
theorem State.endChunk_cases (s : State) :
    s.endChunk = { s.pause with ccnt := 0 } ∨ (s.ccnt ≠ chunkBytes s.cfg ∧ s.endChunk = s) := by
  unfold State.endChunk
  split
  · exact .inl rfl
  · rename_i hmore
    exact .inr ⟨(not_or.1 hmore).1, rfl⟩

theorem State.endStream_cases (s : State) : s.endStream = s.advance ∨ s.endStream = s := by
  unfold State.endStream
  split
  · exact .inl rfl
  · exact .inr rfl

/-- A STREAM step that sends a byte: what it writes. `UPC` stays or moves on by one; `CCNT` counts the byte, below
`CHUNK_BYTES`, or is cleared. -/
theorem State.streamStep_frame (s : State) :
    ∃ (u c : Nat) (tr : List Event) (n : Rat) (tm d : Nat),
      s.streamByte.endChunk.endStream =
        { s with
          dc := some .data
          cs := some .high
          ser := s.ser.shiftOut (streamConv s).1
          dcFresh := false
          warnCnt := s.warnCnt + (streamConv s).2.length
          bcnt := s.bcnt + 1
          upc := u, ccnt := c, trace := tr, now := n, tmr := tm, draws := d } ∧
      (u = s.upc ∨ u = s.upc + 1) ∧ (c = 0 ∨ (c = s.ccnt + 1 ∧ c ≠ chunkBytes s.cfg)) := by
  rw [State.streamByte_eq]
  obtain hchunk | ⟨hccnt, hchunk⟩ := State.endChunk_cases _
  all_goals
    rw [hchunk]
    obtain hstream | hstream := State.endStream_cases _
    all_goals rw [hstream]
  · exact ⟨_, _, _, _, _, _, rfl, .inr rfl, .inl rfl⟩
  · exact ⟨_, _, _, _, _, _, rfl, .inl rfl, .inl rfl⟩
  · exact ⟨_, _, _, _, _, _, rfl, .inr rfl, .inr ⟨rfl, hccnt⟩⟩
  · exact ⟨_, _, _, _, _, _, rfl, .inl rfl, .inr ⟨rfl, hccnt⟩⟩

/-! ### The words of the micro-programs (42 R142, R149, 44 R182, R191) -/

@[simp] theorem phaseOfCode_phaseCode (q : Phase) : phaseOfCode (phaseCode q) = some q := by
  cases q
  all_goals rfl

/-- What stands before the END of a micro-program: only the display program streams, and no word shows `Idle`. -/
inductive InBody (p : Prog) : Instr → Prop
  | phase (q : Phase) (hq : q ≠ .idle) : InBody p (.phase (phaseCode q))
  | cmd (b : Byte) : InBody p (.cmd b)
  | dat (d : Byte) : InBody p (.dat d)
  | rstw (l : Level) : InBody p (.rstw l)
  | waitrdy : InBody p .waitrdy
  | hardreset : InBody p .hardreset
  | stream (hp : p = .display) : InBody p .stream

/-- A word that is such an instruction. -/
def BodyWord (p : Prog) (w : UopWord) : Prop := ∃ i, decodeUop w = .ok i ∧ InBody p i

theorem bodyWord_romCmd (p : Prog) (b : Byte) : BodyWord p (romCmd b) := ⟨_, decodeUop_romCmd b, .cmd b⟩

theorem bodyWord_romDat (p : Prog) (d : Byte) : BodyWord p (romDat d) := ⟨_, decodeUop_romDat d, .dat d⟩

theorem bodyWord_waitrdy (p : Prog) : BodyWord p 0x800 := ⟨_, rfl, .waitrdy⟩

/-- The words of the init table are CMDs and DATs. -/
theorem bodyWord_romTable {p : Prog} {t : List (Byte × List Byte)} {w : UopWord} (hw : w ∈ romTable t) :
    BodyWord p w := by
  obtain ⟨e, -, hw⟩ := List.mem_flatMap.1 hw
  obtain rfl | hw := List.mem_cons.1 hw
  · exact bodyWord_romCmd p e.1
  · obtain ⟨d, -, rfl⟩ := List.mem_map.1 hw
    exact bodyWord_romDat p d

theorem romInit_body (c : Config) :
    ∃ body, romInit c = body ++ [0x000] ∧ ∀ w ∈ body, BodyWord .init w := by
  refine ⟨[0xC05, 0xA00, 0xC06, 0x800, 0xC07] ++ romTable c.initTable, by simp [romInit], ?_⟩
  simp only [List.forall_mem_append, List.forall_mem_cons]
  exact ⟨⟨⟨_, rfl, .phase .resetting nofun⟩, ⟨_, rfl, .hardreset⟩, ⟨_, rfl, .phase .initWait nofun⟩,
    bodyWord_waitrdy _, ⟨_, rfl, .phase .initReplay nofun⟩, nofun⟩, fun _ => bodyWord_romTable⟩

theorem romDisplay_body (c : Config) :
    ∃ body, romDisplay c = body ++ [0x000] ∧ ∀ w ∈ body, BodyWord .display w := by
  refine ⟨(romDisplay c).dropLast, rfl, ?_⟩
  simp only [romDisplay, List.dropLast, List.forall_mem_cons]
  exact ⟨⟨_, rfl, .phase .transmitting nofun⟩, bodyWord_romCmd _ _, ⟨_, rfl, .stream rfl⟩,
    ⟨_, rfl, .phase .poweringOn nofun⟩, bodyWord_romCmd _ _, bodyWord_waitrdy _,
    ⟨_, rfl, .phase .refreshing nofun⟩, bodyWord_romCmd _ _, bodyWord_romDat _ _, bodyWord_waitrdy _,
    ⟨_, rfl, .phase .poweringOff nofun⟩, bodyWord_romCmd _ _, bodyWord_romDat _ _, bodyWord_waitrdy _, nofun⟩

theorem romSleep_body (c : Config) :
    ∃ body, romSleep c = body ++ [0x000] ∧ ∀ w ∈ body, BodyWord .sleep w := by
  refine ⟨[0xC08, romCmd c.cmdDeepSleep] ++ (c.sleepPayload.map romDat ++ [0x600]), by simp [romSleep], ?_⟩
  simp only [List.forall_mem_append, List.forall_mem_cons, List.forall_mem_map]
  exact ⟨⟨⟨_, rfl, .phase .sleeping nofun⟩, bodyWord_romCmd _ _, nofun⟩, fun d _ => bodyWord_romDat _ d,
    ⟨_, rfl, .rstw .low⟩, nofun⟩

/-- Every micro-program is a body with an END after it. -/
theorem words_body (c : Config) (p : Prog) :
    ∃ body, (Rom.ofConfig c).words p = body ++ [0x000] ∧ ∀ w ∈ body, BodyWord p w := by
  cases p with
  | init => exact romInit_body c
  | display => exact romDisplay_body c
  | sleep => exact romSleep_body c

theorem words_length_pos (c : Config) (p : Prog) : 0 < ((Rom.ofConfig c).words p).length := by
  obtain ⟨body, hbody, -⟩ := words_body c p
  simp [hbody]

/-- The word at a place inside a micro-program is its END, or an instruction of its body with another word to
come. -/
theorem word_cases {c : Config} {p : Prog} {n : Nat} (hn : n < ((Rom.ofConfig c).words p).length) :
    ∃ w i, ((Rom.ofConfig c).words p)[n]? = some w ∧ decodeUop w = .ok i ∧
      (i = .endOp ∨ (InBody p i ∧ n + 1 < ((Rom.ofConfig c).words p).length)) := by
  obtain ⟨body, hwords, hbody⟩ := words_body c p
  rw [hwords, List.length_append, List.length_singleton] at hn ⊢
  obtain hlast | hbefore : n = body.length ∨ n < body.length := by omega
  · exact ⟨0x000, .endOp, by simp [hlast], rfl, .inl rfl⟩
  · obtain ⟨i, hi, hin⟩ := hbody _ (List.getElem_mem hbefore)
    exact ⟨_, i, by simp [List.getElem?_append_left hbefore], hi, .inr ⟨hin, by omega⟩⟩

/-! ### What keeps the sequencer consistent (60 R227) -/

theorem Consistent.drv_of_prog {s : State} (hs : Consistent s) {p : Prog} (hp : s.prog = some p) :
    s.drv = true := by
  by_contra hdrv
  obtain ⟨-, -, -, -, hnone⟩ := hs.undriven (by simpa using hdrv)
  simp [hnone] at hp

theorem Consistent.drv_of_ready {s : State} (hs : Consistent s) (hm : s.mode = .ready) : s.drv = true := by
  by_contra hdrv
  obtain ⟨-, -, -, hmode, -⟩ := hs.undriven (by simpa using hdrv)
  simp [hmode] at hm

/-- The invariant does not speak of the input lines. -/
theorem Consistent.sample {s : State} (hs : Consistent s) : Consistent s.sample :=
  ⟨hs.romFixed, hs.holds, hs.modeLegal, hs.undriven, hs.selectHigh, hs.notFresh, hs.idle, hs.running⟩

theorem Consistent.blockReset {s : State} (hs : Consistent s) : Consistent s.blockReset where
  romFixed := hs.romFixed
  holds := hs.holds
  modeLegal := nofun
  undriven := fun _ => ⟨rfl, rfl, rfl, rfl, rfl⟩
  selectHigh := nofun
  notFresh := rfl
  idle := fun _ => ⟨rfl, rfl, rfl, rfl⟩
  running := nofun

/-- A rejection records a result, of which the invariant does not speak. -/
theorem Consistent.reject {s : State} (hs : Consistent s) (op : HostOp) (st : Status) :
    Consistent (s.reject op st) :=
  ⟨hs.romFixed, hs.holds, hs.modeLegal, hs.undriven, hs.selectHigh, hs.notFresh, hs.idle, hs.running⟩

/-- The end of an operation in a legal mode, which is `Unconfigured` for a bus that is not driven. -/
theorem Consistent.finish {s : State} (hs : Consistent s) (op : HostOp) (st : Status) {m : Mode}
    (hlegal : m ≠ .reserved) (hm : s.drv = false → m = .unconfigured) :
    Consistent { (s.finish op st) with mode := m } where
  romFixed := hs.romFixed
  holds := hs.holds
  modeLegal := hlegal
  undriven := fun hdrv => by
    obtain ⟨hcs, hdc, hrst, -, -⟩ := hs.undriven hdrv
    exact ⟨hcs, hdc, hrst, hm hdrv, rfl⟩
  selectHigh := hs.selectHigh
  notFresh := hs.notFresh
  idle := fun _ => ⟨rfl, rfl, rfl, rfl⟩
  running := nofun

theorem Consistent.abort {s : State} (hs : Consistent s) (op : HostOp) (st : Status) :
    Consistent (s.abort op st) :=
  hs.finish op st nofun (fun _ => rfl)

/-- An operation starts: on a driven bus, in the mode of its micro-program, at the first word. -/
theorem Consistent.beginProgram {s : State} {p : Prog} (hrom : s.rom = Rom.ofConfig s.cfg)
    (hholds : holdsOk s.cfg = true) (hdrv : s.drv = true) (hcs : s.cs = some .high) (hfresh : s.dcFresh = false)
    (hm : s.mode = modeOfProg p) : Consistent (s.beginProgram p) where
  romFixed := hrom
  holds := hholds
  modeLegal := by cases p <;> simp [hm, modeOfProg]
  undriven := by simp [hdrv]
  selectHigh := fun _ => hcs
  notFresh := hfresh
  idle := nofun
  running := fun q hq => by
    obtain rfl : p = q := by simpa using hq
    refine ⟨?_, hm, by cases p <;> simp [Prog.firstPhase]⟩
    simpa [hrom] using words_length_pos s.cfg p

/-- A running operation goes on: the step leaves the machine, the mode and the program, a driven bus with select high,
a phase that shows work, and `UPC` inside the program. -/
theorem Consistent.goesOn {s t : State} {p : Prog} (hs : Consistent s) (hp : s.prog = some p)
    (hfixed : t.cfg = s.cfg ∧ t.rom = s.rom ∧ t.drv = s.drv ∧ t.mode = s.mode ∧ t.prog = s.prog)
    (hcs : t.cs = some .high) (hfresh : t.dcFresh = false) (hphase : t.phase ≠ .idle)
    (hupc : t.upc < (s.rom.words p).length) : Consistent t := by
  obtain ⟨hcfg, hrom, hdrv, hmode, hprog⟩ := hfixed
  obtain ⟨-, hmodeOf, -⟩ := hs.running p hp
  have hdriven : t.drv = true := hdrv.trans (hs.drv_of_prog hp)
  exact
    { romFixed := by rw [hrom, hcfg, hs.romFixed]
      holds := by rw [hcfg, hs.holds]
      modeLegal := by rw [hmode]; exact hs.modeLegal
      undriven := by simp [hdriven]
      selectHigh := fun _ => hcs
      notFresh := hfresh
      idle := by simp [hprog, hp]
      running := fun q hq => by
        obtain rfl : p = q := by simpa [hprog, hp] using hq
        exact ⟨by rw [hrom]; exact hupc, hmode.trans hmodeOf, hphase⟩ }

/-! ### The requests in a consistent state that is idle -/

/-- What follows for the state after an outcome: it is a next state, and a consistent one. -/
def NextConsistent (r : Host.Outcome State Fault Refusal) : Prop := ∃ t, r = .next t ∧ Consistent t

theorem NextConsistent.thenSample {r : Host.Outcome State Fault Refusal} (h : NextConsistent r) :
    NextConsistent (thenSample r) := by
  obtain ⟨t, rfl, ht⟩ := h
  exact ⟨_, rfl, ht.sample⟩

theorem Consistent.beginInit {s : State} (hs : Consistent s) : Consistent s.beginInit := by
  obtain h | h := s.beginInit_cases
  · rw [h]
    exact Consistent.beginProgram hs.romFixed hs.holds rfl rfl hs.notFresh rfl
  · rw [h]
    exact hs.abort .initializeOp .setupFailure

theorem Consistent.beginDisplay {s : State} (hs : Consistent s) (hm : s.mode = .ready) :
    Consistent s.beginDisplay :=
  have hdrv := hs.drv_of_ready hm
  Consistent.beginProgram hs.romFixed hs.holds hdrv (hs.selectHigh hdrv) hs.notFresh hm

theorem Consistent.beginSleep {s : State} (hs : Consistent s) (hm : s.mode = .ready) :
    Consistent (s.beginProgram .sleep) :=
  have hdrv := hs.drv_of_ready hm
  Consistent.beginProgram hs.romFixed hs.holds hdrv (hs.selectHigh hdrv) hs.notFresh hm

/-- Reading `MODE` does not stop a consistent state. -/
theorem NextConsistent.ifReady {s : State} (hs : Consistent s) (op : HostOp)
    {r : Host.Outcome State Fault Refusal} (hr : s.mode = .ready → NextConsistent r) :
    NextConsistent (ifReady op s r) := by
  unfold Machine.ifReady
  split
  · exact hr ‹_›
  · exact ⟨_, rfl, hs.reject _ _⟩
  · exact ⟨_, rfl, hs.reject _ _⟩
  · exact absurd ‹_› hs.modeLegal

theorem NextConsistent.execDisplayframe {s : State} (hs : Consistent s) (hidle : s.phase = .idle) :
    NextConsistent (exec .displayframe s) := by
  simp only [exec, Machine.execDisplayframe, ifTaken_of_idle _ hidle]
  refine .ifReady hs _ fun hm => ⟨_, rfl, ?_⟩
  split
  · exact hs.beginDisplay hm
  · exact hs.reject _ _

theorem NextConsistent.request {s : State} (hs : Consistent s) (hp : s.prog = none) (w : HostWord) :
    NextConsistent (exec (decodeHostop w) s) := by
  obtain ⟨hidle, -⟩ := hs.idle hp
  obtain h | h | h | h := decodeHostop_cases w
  · rw [h]; exact ⟨_, ifTaken_of_idle _ hidle, hs.reject _ _⟩
  · rw [h]; exact ⟨_, ifTaken_of_idle _ hidle, hs.beginInit⟩
  · rw [h]; exact .execDisplayframe hs hidle
  · rw [h]
    simp only [exec, execSleep, ifTaken_of_idle _ hidle]
    exact .ifReady hs _ fun hm => ⟨_, rfl, hs.beginSleep hm⟩

/-! ### The micro-operations of a running program -/

/-- A yield passes time, of which the invariant does not speak. -/
theorem Consistent.pause {s : State} (hs : Consistent s) : Consistent s.pause :=
  ⟨hs.romFixed, hs.holds, hs.modeLegal, hs.undriven, hs.selectHigh, hs.notFresh, hs.idle, hs.running⟩

theorem Consistent.enterWait {s : State} (hs : Consistent s) : Consistent s.enterWait := by
  rw [s.enterWait_frame]
  exact ⟨hs.romFixed, hs.holds, hs.modeLegal, hs.undriven, hs.selectHigh, hs.notFresh, hs.idle, hs.running⟩

/-- A word that leaves the lines, the mode and the phase: on to the next one. -/
theorem Consistent.advance {s : State} (hs : Consistent s) {p : Prog} (hp : s.prog = some p)
    (hmore : s.upc + 1 < (s.rom.words p).length) : Consistent s.advance :=
  have ⟨_, _, hphase⟩ := hs.running p hp
  hs.goesOn hp ⟨rfl, rfl, rfl, rfl, rfl⟩ (hs.selectHigh (hs.drv_of_prog hp)) hs.notFresh hphase hmore

theorem Consistent.countBusy {s : State} (hs : Consistent s) {p : Prog} (hp : s.prog = some p) :
    Consistent s.countBusy :=
  have ⟨hupc, _, hphase⟩ := hs.running p hp
  hs.goesOn hp ⟨rfl, rfl, rfl, rfl, rfl⟩ (hs.selectHigh (hs.drv_of_prog hp)) hs.notFresh hphase hupc

theorem Consistent.passBarrier {s : State} (hs : Consistent s) {p : Prog} (hp : s.prog = some p)
    (hmore : s.upc + 1 < (s.rom.words p).length) : Consistent s.passBarrier :=
  have ⟨_, _, hphase⟩ := hs.running p hp
  hs.goesOn hp ⟨rfl, rfl, rfl, rfl, rfl⟩ (hs.selectHigh (hs.drv_of_prog hp)) hs.notFresh hphase hmore

theorem Consistent.sendFrame {s : State} (hs : Consistent s) {p : Prog} (hp : s.prog = some p) (f : Frame) :
    Consistent (s.sendFrame f) := by
  obtain ⟨hupc, -, hphase⟩ := hs.running p hp
  rw [s.sendFrame_eq]
  exact hs.goesOn hp ⟨rfl, rfl, rfl, rfl, rfl⟩ rfl rfl hphase hupc

theorem Consistent.setRst {s : State} (hs : Consistent s) {p : Prog} (hp : s.prog = some p) (l : Level) :
    Consistent (s.setRst l) :=
  have ⟨hupc, _, hphase⟩ := hs.running p hp
  hs.goesOn hp ⟨rfl, rfl, rfl, rfl, rfl⟩ (hs.selectHigh (hs.drv_of_prog hp)) hs.notFresh hphase hupc

theorem Consistent.resetPulse {s : State} (hs : Consistent s) {p : Prog} (hp : s.prog = some p) :
    Consistent s.resetPulse := by
  obtain ⟨hupc, -, hphase⟩ := hs.running p hp
  rw [s.resetPulse_eq]
  exact hs.goesOn hp ⟨rfl, rfl, rfl, rfl, rfl⟩ (hs.selectHigh (hs.drv_of_prog hp)) hs.notFresh hphase hupc

/-- WAITRDY in a running program: the barrier passed, the operation ended at the bound, or another poll to come
(41 R126, R128). -/
theorem NextConsistent.execWaitrdy {s : State} (hs : Consistent s) {p : Prog} (hp : s.prog = some p)
    (hmore : s.upc + 1 < (s.rom.words p).length) : NextConsistent (exec .waitrdy s) := by
  have hpw : s.enterWait.prog = some p := by rw [s.enterWait_frame]; exact hp
  have hmorew : s.enterWait.upc + 1 < (s.enterWait.rom.words p).length := by rw [s.enterWait_frame]; exact hmore
  simp only [exec, Machine.execWaitrdy, hp]
  split
  · exact ⟨_, rfl, hs.enterWait.passBarrier hpw hmorew⟩
  · split
    · exact ⟨_, rfl, (hs.enterWait.countBusy hpw).abort _ _⟩
    · exact ⟨_, rfl, (hs.enterWait.countBusy hpw).pause⟩

/-- STREAM in the display program: one byte more, or on to the next word (44 R184). -/
theorem NextConsistent.execStream {s : State} (hs : Consistent s) (hp : s.prog = some .display)
    (hmore : s.upc + 1 < (s.rom.words .display).length) : NextConsistent (exec .stream s) := by
  obtain ⟨hupc, -, hphase⟩ := hs.running _ hp
  simp only [exec, Machine.execStream, hp, ne_eq, not_true_eq_false, if_false,
    ifDriven_of_drv _ (hs.drv_of_prog hp)]
  split
  · exact ⟨_, rfl, hs.advance hp hmore⟩
  · obtain ⟨u, c, tr, n, tm, d, hstep, hu, -⟩ := s.streamStep_frame
    have hin : u < (s.rom.words .display).length := by omega
    refine ⟨_, rfl, ?_⟩
    rw [hstep]
    exact hs.goesOn hp ⟨rfl, rfl, rfl, rfl, rfl⟩ rfl rfl hphase hin

/-- END leaves a legal mode, and nothing running. -/
theorem NextConsistent.execEndOp {s : State} (hs : Consistent s) {p : Prog} (hp : s.prog = some p) :
    NextConsistent (exec .endOp s) := by
  have hdrv := hs.drv_of_prog hp
  refine ⟨_, exec_endOp_of_prog hp, hs.finish _ _ ?_ (by simp [hdrv])⟩
  cases p with
  | init => exact nofun
  | display => exact hs.modeLegal
  | sleep => exact nofun

theorem NextConsistent.body {s : State} (hs : Consistent s) {p : Prog} (hp : s.prog = some p)
    (hmore : s.upc + 1 < (s.rom.words p).length) {i : Instr} (hi : InBody p i) : NextConsistent (exec i s) := by
  have hdrv := hs.drv_of_prog hp
  cases hi with
  | phase q hq =>
    simp only [exec, execPhase, phaseOfCode_phaseCode]
    exact ⟨_, rfl, hs.goesOn hp ⟨rfl, rfl, rfl, rfl, rfl⟩ (hs.selectHigh hdrv) hs.notFresh hq hmore⟩
  | cmd b =>
    exact ⟨_, ifDriven_of_drv _ hdrv, (hs.sendFrame hp _).advance (by simpa using hp) (by simpa using hmore)⟩
  | dat d =>
    exact ⟨_, ifDriven_of_drv _ hdrv, (hs.sendFrame hp _).advance (by simpa using hp) (by simpa using hmore)⟩
  | rstw l =>
    exact ⟨_, ifDriven_of_drv _ hdrv, (hs.setRst hp l).advance (by simpa using hp) (by simpa using hmore)⟩
  | waitrdy => exact .execWaitrdy hs hp hmore
  | hardreset =>
    simp only [exec, execHardreset, hs.holds, if_true, ifDriven_of_drv _ hdrv]
    exact ⟨_, rfl, (hs.resetPulse hp).advance (by rw [s.resetPulse_eq]; exact hp)
      (by rw [s.resetPulse_eq]; exact hmore)⟩
  | stream hdisplay =>
    subst hdisplay
    exact .execStream hs hp hmore

/-- A running program: its word is an instruction of its body, or its END. -/
theorem NextConsistent.runUop {s : State} (hs : Consistent s) {p : Prog} (hp : s.prog = some p) :
    NextConsistent (runUop p s) := by
  obtain ⟨hupc, -, -⟩ := hs.running p hp
  rw [hs.romFixed] at hupc
  obtain ⟨w, i, hw, hi, hcase⟩ := word_cases hupc
  rw [← hs.romFixed] at hw hcase
  rw [runUop_of_word hw hi]
  obtain rfl | ⟨hbody, hmore⟩ := hcase
  · exact .execEndOp hs hp
  · exact .body hs hp hmore hbody

theorem Consistent.step {s : State} (hs : Consistent s) : NextConsistent (step s) := by
  cases hrst : s.pins.rst with
  | true =>
    rw [step_of_rst hrst]
    exact ⟨_, rfl, hs.blockReset.sample⟩
  | false =>
    cases hp : s.prog with
    | some p =>
      rw [step_of_prog hrst hp]
      exact (NextConsistent.runUop hs hp).thenSample
    | none =>
      cases hv : s.pins.reqValid with
      | true =>
        rw [step_of_request hrst hp hv]
        exact (NextConsistent.request hs hp _).thenSample
      | false =>
        rw [step_of_no_request hrst hp hv]
        exact ⟨_, rfl, hs.sample⟩

/-- Settles O52: a consistent state resets, takes a request, rests, or runs the word of its micro-program, which is
an instruction of the body or the END; each has a next state that is consistent. -/
theorem consistentStatesNeverStop : Obligations.ConsistentStatesNeverStop := fun _ hs => hs.step

end Sys2Proof.Machine

namespace Sys2Proof.Machine

/-! ### Single requests, micro-operations and codes -/

/-- Settles O1: the reset state is given field by field. -/
theorem resetLeavesTheListedValues : Obligations.ResetLeavesTheListedValues :=
  ⟨rfl, rfl, rfl, rfl, rfl, rfl, rfl, rfl, rfl, rfl, rfl, rfl, rfl, rfl, rfl, rfl, rfl, rfl, rfl⟩

/-- Settles O2: the step is a block reset, whatever runs and whatever is requested. -/
theorem blockResetWinsInEveryState : Obligations.BlockResetWinsInEveryState := by
  intro s hrst
  refine ⟨_, step_of_rst hrst, ?_⟩
  simp [Serial.reset]

/-- Settles O3. -/
theorem stepRunsTheDecodedInstruction : Obligations.StepRunsTheDecodedInstruction := by
  refine ⟨?_, fun s => step_of_request, fun s => step_of_no_request⟩
  intro s p w i hrst hp hw hi
  rw [step_of_prog hrst hp, runUop_of_word hw hi]

theorem phaseOfCode_of_reserved {n : Nibble} (h : 8 < n.toNat) : phaseOfCode n = none := by
  revert n
  decide

/-- Settles O9. -/
theorem codesOfRequestsAndRegisters : Obligations.CodesOfRequestsAndRegisters :=
  ⟨⟨rfl, rfl, rfl, rfl⟩, rfl, rfl, phaseOfCode_phaseCode, fun _ => phaseOfCode_of_reserved, rfl⟩

/-- STREAM with a byte left writes pins (44 R184). -/
theorem exec_stream_of_not_drv {s : State} (hdrv : s.drv = false) (hp : s.prog = some .display)
    (hb : s.bcnt < frameBytes s.cfg) : exec .stream s = .fault .notDriven := by
  simp [exec, execStream, hp, Nat.not_le.2 hb, ifDriven_of_not_drv _ hdrv]

theorem exec_hardreset_of_not_drv {s : State} (hdrv : s.drv = false) (hholds : holdsOk s.cfg = true) :
    exec .hardreset s = .fault .notDriven := by
  simp [exec, execHardreset, hholds, ifDriven_of_not_drv _ hdrv]

/-- Settles O21: XFER, HARDRESET and STREAM ask for a driven bus among other things, the other pin writes for that
alone. -/
theorem noPinWriteWhileUndriven : Obligations.NoPinWriteWhileUndriven := by
  intro i s hdrv hholds hi
  obtain ⟨b, hi⟩ | ⟨l, rfl⟩ | ⟨b, ds, rfl⟩ | ⟨p, q, rfl⟩ | hi | ⟨rfl, hp, hb⟩ := hi
  · obtain rfl | hi := hi
    · simp [exec, execXfer, hdrv]
    · obtain rfl | rfl | rfl | rfl := hi
      all_goals exact ifDriven_of_not_drv _ hdrv
  · exact ifDriven_of_not_drv _ hdrv
  · exact ifDriven_of_not_drv _ hdrv
  · exact ifDriven_of_not_drv _ hdrv
  · simp only [List.mem_cons, List.not_mem_nil, or_false] at hi
    obtain rfl | rfl | rfl | hi := hi
    · exact ifDriven_of_not_drv _ hdrv
    · exact ifDriven_of_not_drv _ hdrv
    · exact exec_hardreset_of_not_drv hdrv hholds
    · obtain rfl | rfl | rfl | rfl | rfl := hi
      all_goals exact ifDriven_of_not_drv _ hdrv
  · exact exec_stream_of_not_drv hdrv hp hb

/-- Settles O34. -/
theorem endEffect : Obligations.EndEffect := by
  intro s p hp
  rw [exec_endOp_of_prog hp]
  cases p
  all_goals rfl

theorem ifReady_of_ready {op : HostOp} {s : State} (r : Host.Outcome State Fault Refusal) (hm : s.mode = .ready) :
    ifReady op s r = r := by
  simp [ifReady, hm]

theorem ifReady_of_reserved {op : HostOp} {s : State} (r : Host.Outcome State Fault Refusal)
    (hm : s.mode = .reserved) : ifReady op s r = .fault .badMode := by
  simp [ifReady, hm]

theorem ifReady_of_not_configured {op : HostOp} {s : State} (r : Host.Outcome State Fault Refusal)
    (hm : s.mode = .unconfigured ∨ s.mode = .asleep) : ifReady op s r = .next (s.reject op .notConfigured) := by
  obtain hm | hm := hm
  · simp [ifReady, hm]
  · simp [ifReady, hm]

/-- Settles O45. -/
theorem displayframeAdmitted : Obligations.DisplayframeAdmitted := by
  intro s hidle hm hlen
  simp only [exec, execDisplayframe, ifTaken_of_idle _ hidle, ifReady_of_ready _ hm, if_pos hlen]
  rw [← hlen]
  rfl

/-- Settles O47: taken in `Idle`, then the mode decides. -/
theorem sleepAdmission : Obligations.SleepAdmission := by
  intro s hidle
  simp only [exec, execSleep, execDisplayframe, ifTaken_of_idle _ hidle]
  exact ⟨fun hm => ifReady_of_ready _ hm, fun hm => ifReady_of_not_configured _ hm,
    fun hm => ⟨ifReady_of_reserved _ hm, ifReady_of_reserved _ hm⟩⟩

/-- Each of the four requests is looked at only where the block is ready for one (44 R199, 60 R229). -/
theorem exec_request_of_not_idle {s : State} (w : HostWord) (h : s.phase ≠ .idle) :
    exec (decodeHostop w) s = .next s := by
  obtain hw | hw | hw | hw := decodeHostop_cases w
  all_goals
    rw [hw]
    exact ifTaken_of_not_idle _ h

theorem State.reqReady_iff (s : State) : s.reqReady = true ↔ s.phase = .idle := by simp [State.reqReady]

theorem Consistent.phase_ne_idle {s : State} (hs : Consistent s) {p : Prog} (hp : s.prog = some p) :
    s.phase ≠ .idle :=
  have ⟨_, _, hphase⟩ := hs.running p hp
  hphase

theorem Consistent.phase_idle_iff {s : State} (hs : Consistent s) : s.phase = .idle ↔ s.prog = none := by
  constructor
  · intro hidle
    by_contra hp
    obtain ⟨p, hp⟩ := Option.ne_none_iff_exists'.1 hp
    exact hs.phase_ne_idle hp hidle
  · intro hp
    obtain ⟨hidle, -⟩ := hs.idle hp
    exact hidle

/-- Settles O48. -/
theorem requestWhileBusyIsNotTaken : Obligations.RequestWhileBusyIsNotTaken :=
  ⟨fun _ w h => exec_request_of_not_idle w h, fun _ w _ hs hp => exec_request_of_not_idle w (hs.phase_ne_idle hp),
    fun _ _ => step_of_prog, State.reqReady_iff, fun s hs => s.reqReady_iff.trans hs.phase_idle_iff⟩

/-! ### What an instruction can leave, and the registers it writes (10 R36)

The laws of the named operations say field by field what each writes, so it is enough to list, once, the operations
of each instruction. -/

/-- `Leaves s i t`: `t` is one of the next states that `exec i s` can answer (`exec_leaves`). -/
inductive Leaves (s : State) : Instr → State → Prop
  | notTaken {i : Instr} (hi : i.format = .hostop) : Leaves s i s
  | rejected {i : Instr} (hi : i.format = .hostop) (op : HostOp) (st : Status) : Leaves s i (s.reject op st)
  | initStarted :
      Leaves s .initializeOp (({ s with mode := .unconfigured } : State).configureBus.beginProgram .init)
  | initFailed :
      Leaves s .initializeOp (({ s with mode := .unconfigured } : State).abort .initializeOp .setupFailure)
  | displayStarted : Leaves s .displayframe s.beginDisplay
  | sleepStarted : Leaves s .sleep (s.beginProgram .sleep)
  | ended (p : Prog) : Leaves s .endOp { (s.finish p.op .ok) with mode := modeAfter p s.mode }
  | setcmd : Leaves s .setcmd (s.select .cmd).advance
  | setdat : Leaves s .setdat (s.select .data).advance
  | xfer (v : Byte) : Leaves s (.xfer v) (s.transfer v).advance
  | cmd (b : Byte) : Leaves s (.cmd b) (s.sendFrame (.cmd, b)).advance
  | dat (d : Byte) : Leaves s (.dat d) (s.sendFrame (.data, d)).advance
  | rstw (l : Level) : Leaves s (.rstw l) (s.setRst l).advance
  | delay (d : Byte) : Leaves s (.delay d) (s.hold (holdMs d)).advance
  | passed : Leaves s .waitrdy s.enterWait.passBarrier
  | timedOut (p : Prog) : Leaves s .waitrdy (s.enterWait.countBusy.abort p.op .hwNotResponding)
  | busy : Leaves s .waitrdy s.enterWait.countBusy.pause
  | yield : Leaves s .yield s.pause.advance
  | hardreset : Leaves s .hardreset s.resetPulse.advance
  | streamDone : Leaves s .stream s.advance
  | streamed : Leaves s .stream s.streamByte.endChunk.endStream
  | phase (c : Nibble) (q : Phase) : Leaves s (.phase c) ({ s with phase := q } : State).advance
  | sent {i : Instr} (hi : i.format = .wire) (fs : List Frame) : Leaves s i (State.sendFrames fs s)

theorem exec_leaves {i : Instr} {s t : State} (h : exec i s = .next t) : Leaves s i t := by
  cases i with
  | hostopReserved =>
    obtain rfl | rfl := exec_hostopReserved_next h
    · exact .notTaken rfl
    · exact .rejected rfl _ _
  | initializeOp =>
    obtain rfl | rfl := exec_initializeOp_next h
    · exact .notTaken rfl
    · obtain hinit | hinit := s.beginInit_cases
      · rw [hinit]; exact .initStarted
      · rw [hinit]; exact .initFailed
  | displayframe =>
    obtain rfl | ⟨st, rfl⟩ | rfl := exec_displayframe_next h
    · exact .notTaken rfl
    · exact .rejected rfl _ _
    · exact .displayStarted
  | sleep =>
    obtain rfl | rfl | rfl := exec_sleep_next h
    · exact .notTaken rfl
    · exact .rejected rfl _ _
    · exact .sleepStarted
  | endOp => obtain ⟨p, -, rfl⟩ := exec_endOp_next h; exact .ended p
  | setcmd => obtain ⟨-, rfl⟩ := ifDriven_next h; exact .setcmd
  | setdat => obtain ⟨-, rfl⟩ := ifDriven_next h; exact .setdat
  | xfer v => obtain rfl := exec_xfer_next h; exact .xfer v
  | cmd c => obtain ⟨-, rfl⟩ := ifDriven_next h; exact .cmd c
  | dat d => obtain ⟨-, rfl⟩ := ifDriven_next h; exact .dat d
  | rstw l => obtain ⟨-, rfl⟩ := ifDriven_next h; exact .rstw l
  | delay d => obtain rfl := Host.Outcome.next.inj h; exact .delay d
  | waitrdy =>
    obtain ⟨-, rfl⟩ | ⟨-, -, p, -, rfl⟩ | ⟨-, -, rfl⟩ := execWaitrdy_next h
    · exact .passed
    · exact .timedOut p
    · exact .busy
  | yield => obtain rfl := Host.Outcome.next.inj h; exact .yield
  | hardreset => obtain rfl := exec_hardreset_next h; exact .hardreset
  | stream =>
    obtain ⟨-, ⟨-, rfl⟩ | ⟨-, -, rfl⟩⟩ := execStream_next h
    · exact .streamDone
    · exact .streamed
  | phase p => obtain ⟨q, -, rfl⟩ := exec_phase_next h; exact .phase p q
  | uopReservedD _ | uopReservedE _ | uopReservedF _ => cases h
  | wireCmd _ | wireData _ | frameStart | powerOn | refresh | powerOff | deepSleep | initEntry _ _
  | pixelData _ _ =>
    obtain ⟨-, rfl⟩ := exec_wire_next rfl h
    exact .sent rfl _

/-- Settles O58: for each state an instruction can leave, the laws of its operations say what is as before. -/
theorem registersAreWrittenOnlyByTheirRules : Obligations.RegistersAreWrittenOnlyByTheirRules := by
  intro i s t h
  cases exec_leaves h with
  | notTaken hi | rejected hi => simp [hi]
  | passed | timedOut p | busy =>
    rw [s.enterWait_frame]
    simp [Instr.format, State.passBarrier, State.countBusy, State.poll]
  | hardreset =>
    rw [s.resetPulse_eq]
    simp [Instr.format]
  | streamed =>
    obtain ⟨u, c, tr, n, tm, d, hstep, hu, -⟩ := s.streamStep_frame
    rw [hstep]
    simp [Instr.format, hu]
  | sent hi fs =>
    rw [State.sendFrames_frame]
    simp [hi]
  | initStarted | initFailed | displayStarted | sleepStarted | ended | setcmd | setdat | xfer | cmd | dat | rstw
  | delay | yield | streamDone | phase => simp [Instr.format, State.beginDisplay]

/-! ### The frame buffer and the counters (10 R31, R34, log 5) -/

/-- The held buffer is the one on the port at admission, or let go, or as before (10 R37, R42). -/
theorem exec_fb {i : Instr} {s t : State} (h : exec i s = .next t) :
    t.fb = s.fb ∨ t.fb = [] ∨ t.fb = s.pins.fb := by
  cases exec_leaves h with
  | displayStarted => exact .inr (.inr rfl)
  | initFailed | ended | timedOut => exact .inr (.inl rfl)
  | passed | busy => rw [s.enterWait_frame]; exact .inl rfl
  | hardreset => rw [s.resetPulse_eq]; exact .inl rfl
  | streamed =>
    obtain ⟨u, c, tr, n, tm, d, hstep, -⟩ := s.streamStep_frame
    rw [hstep]
    exact .inl rfl
  | sent hi fs => rw [State.sendFrames_frame]; exact .inl rfl
  | notTaken | rejected | initStarted | sleepStarted | setcmd | setdat | xfer | cmd | dat | rstw | delay | yield
  | streamDone | phase => left; simp

theorem MemoryCanonical.exec_fb {i : Instr} {s t : State} (hs : MemoryCanonical s) (h : exec i s = .next t) :
    t.fb.wf = true := by
  obtain ⟨hfb, hport⟩ := hs
  obtain hcase | hcase | hcase := Machine.exec_fb h
  · rw [hcase]; exact hfb
  · rw [hcase]; rfl
  · rw [hcase]; exact hport

/-- The sampled buffer is drawn in canonical form. -/
theorem memoryCanonical_sample {s : State} (hfb : s.fb.wf = true) : MemoryCanonical s.sample :=
  ⟨hfb, Memory.ofCells_wf _⟩

theorem MemoryCanonical.step {s t : State} (hs : MemoryCanonical s) (h : step s = .next t) :
    MemoryCanonical t := by
  obtain ⟨u, rfl, hcases⟩ := step_cases h
  obtain ⟨-, rfl⟩ | ⟨-, _, _, _, -, -, -, hu⟩ | ⟨-, -, -, hu⟩ | ⟨-, -, -, rfl⟩ := hcases
  · exact memoryCanonical_sample rfl
  · exact memoryCanonical_sample (hs.exec_fb hu)
  · exact memoryCanonical_sample (hs.exec_fb hu)
  · obtain ⟨hfb, -⟩ := hs
    exact memoryCanonical_sample hfb

/-- A code gives at most one warning, a byte at most two (43 R162, R163). -/
theorem conv_warnings_length_le (e : Encoding) (b : Byte) : (conv e b).2.length ≤ 2 := by
  have hone (c : Nibble) : (lutWarning c).length ≤ 1 := by
    unfold lutWarning
    split
    · exact Nat.le_refl 1
    · exact Nat.zero_le 1
  cases e with
  | native4 => exact Nat.zero_le 2
  | lut3 =>
    simp only [conv, convLut3, List.length_append]
    exact Nat.add_le_add (hone _) (hone _)

/-- A byte of the frame that is left: every count moves on, and `CCNT` stays below a whole chunk. -/
theorem CountersInRange.streamStep {s : State} (hs : CountersInRange s) (hleft : s.bcnt < frameBytes s.cfg) :
    CountersInRange s.streamByte.endChunk.endStream := by
  obtain ⟨hbcnt, hccnt, hle, hwarn⟩ := hs
  obtain ⟨u, c, tr, n, tm, d, hstep, -, hc⟩ := s.streamStep_frame
  have hwarns : (streamConv s).2.length ≤ 2 := conv_warnings_length_le _ _
  rw [hstep]
  refine ⟨hleft, ?_, ?_, ?_⟩
  all_goals dsimp only
  all_goals omega

theorem CountersInRange.execStream {s t : State} (hs : CountersInRange s) (h : exec .stream s = .next t) :
    CountersInRange t := by
  obtain ⟨-, ⟨-, rfl⟩ | ⟨hleft, -, rfl⟩⟩ := execStream_next h
  · exact hs
  · exact hs.streamStep hleft

/-- All counts at 0: in range wherever a count below `CHUNK_BYTES` was. -/
theorem CountersInRange.of_zero {s t : State} (hs : CountersInRange s) (hcfg : t.cfg = s.cfg) (hb : t.bcnt = 0)
    (hc : t.ccnt = 0) (hw : t.warnCnt = 0) : CountersInRange t := by
  obtain ⟨-, hccnt, -, -⟩ := hs
  simp only [CountersInRange, hcfg, hb, hc, hw]
  omega

theorem CountersInRange.execDisplayframe {s t : State} (hs : CountersInRange s)
    (h : exec .displayframe s = .next t) : CountersInRange t := by
  obtain rfl | ⟨st, rfl⟩ | rfl := exec_displayframe_next h
  · exact hs
  · exact hs
  · exact hs.of_zero rfl rfl rfl rfl

/-- STREAM counts and DISPLAYFRAME clears; no other instruction writes a count. -/
theorem CountersInRange.exec {i : Instr} {s t : State} (hs : CountersInRange s) (h : exec i s = .next t) :
    CountersInRange t := by
  by_cases hstream : i = .stream
  · subst hstream
    exact hs.execStream h
  by_cases hdisplay : i = .displayframe
  · subst hdisplay
    exact hs.execDisplayframe h
  obtain ⟨⟨hcfg, -⟩, -, -, -, -, -, -, -, -, -, -, hcounts, -⟩ := registersAreWrittenOnlyByTheirRules i s t h
  obtain ⟨hw, hb, hc⟩ := hcounts hstream hdisplay
  simpa only [CountersInRange, hcfg, hw, hb, hc] using hs

theorem CountersInRange.sample {s : State} (hs : CountersInRange s) : CountersInRange s.sample := hs

theorem CountersInRange.step {s t : State} (hs : CountersInRange s) (h : step s = .next t) :
    CountersInRange t := by
  obtain ⟨u, rfl, hcases⟩ := step_cases h
  obtain ⟨-, rfl⟩ | ⟨-, _, _, _, -, -, -, hu⟩ | ⟨-, -, -, hu⟩ | ⟨-, -, -, rfl⟩ := hcases
  · exact (hs.of_zero (t := s.blockReset) rfl rfl rfl rfl).sample
  · exact (hs.exec hu).sample
  · exact (hs.exec hu).sample
  · exact hs.sample

/-- Settles O56. -/
theorem everyStepKeepsMemoryAndCounters : Obligations.EveryStepKeepsMemoryAndCounters :=
  fun _ _ h => ⟨fun hs => hs.step h, fun hs => hs.step h⟩

end Sys2Proof.Machine

namespace Sys2Proof.Machine

/-! ### No rule reads the trace or the clock (10 R39)

`s.withPast tr n` is the machine `s` with a past before its own: events before its trace, time before its clock. Every
operation appends to the trace and adds to the clock, so it commutes with a change of the past. Any state is the same
state at the start of its ghost state with a past, and so are any two that differ in ghost state only. -/

def State.withPast (tr : List Event) (n : Rat) (s : State) : State :=
  { s with trace := tr ++ s.trace, now := n + s.now }

section
variable (tr : List Event) (n : Rat)

theorem State.emit_withPast (es : List Event) (s : State) :
    State.emit es (s.withPast tr n) = (State.emit es s).withPast tr n := by
  simp [State.emit, State.withPast]

theorem State.select_withPast (m : DcMode) (s : State) :
    (s.withPast tr n).select m = (s.select m).withPast tr n :=
  State.emit_withPast tr n [.dcW m] { s with dc := some m, dcFresh := true }

theorem State.setRst_withPast (l : Level) (s : State) :
    (s.withPast tr n).setRst l = (s.setRst l).withPast tr n :=
  State.emit_withPast tr n [.rstW l] { s with rst := some l }

theorem State.transfer_withPast (v : Byte) (s : State) :
    (s.withPast tr n).transfer v = (s.transfer v).withPast tr n := by
  simp [State.transfer, State.setCs, State.clearFresh, State.emit, State.withPast]

theorem State.sendFrame_withPast (f : Frame) (s : State) :
    (s.withPast tr n).sendFrame f = (s.sendFrame f).withPast tr n := by
  unfold State.sendFrame
  rw [State.select_withPast, State.transfer_withPast]

theorem State.sendFrames_withPast (fs : List Frame) (s : State) :
    State.sendFrames fs (s.withPast tr n) = (State.sendFrames fs s).withPast tr n := by
  induction fs generalizing s with
  | nil => rfl
  | cons f fs ih => rw [State.sendFrames_cons, State.sendFrame_withPast, ih, State.sendFrames_cons]

theorem State.hold_withPast (d : Nat) (s : State) : (s.withPast tr n).hold d = (s.hold d).withPast tr n := by
  simp [State.hold, State.emit, State.withPast, add_assoc]

theorem State.pause_withPast (s : State) : (s.withPast tr n).pause = s.pause.withPast tr n := by
  simp [State.pause, State.emit, State.withPast, add_assoc]

theorem State.resetPulse_withPast (s : State) : (s.withPast tr n).resetPulse = s.resetPulse.withPast tr n := by
  simp only [State.resetPulse, State.setRst_withPast, State.hold_withPast]
  rfl

theorem State.reject_withPast (op : HostOp) (st : Status) (s : State) :
    (s.withPast tr n).reject op st = (s.reject op st).withPast tr n :=
  State.emit_withPast tr n [.done op st] { s with status := st }

theorem State.finish_withPast (op : HostOp) (st : Status) (s : State) :
    (s.withPast tr n).finish op st = (s.finish op st).withPast tr n :=
  State.emit_withPast tr n [.done op st]
    { s with status := st, phase := .idle, prog := none, upc := 0, inWait := false, fb := [] }

theorem State.abort_withPast (op : HostOp) (st : Status) (s : State) :
    (s.withPast tr n).abort op st = (s.abort op st).withPast tr n := by
  unfold State.abort
  rw [State.finish_withPast]
  rfl

theorem State.configureBus_withPast (s : State) :
    (s.withPast tr n).configureBus = s.configureBus.withPast tr n := by
  simp [State.configureBus, State.setCs, State.emit, State.withPast]

theorem State.beginInit_withPast (s : State) : (s.withPast tr n).beginInit = s.beginInit.withPast tr n := by
  have hbus := State.configureBus_withPast tr n { s with mode := .unconfigured }
  have habort := State.abort_withPast tr n .initializeOp .setupFailure { s with mode := .unconfigured }
  unfold State.beginInit
  rw [apply_ite (State.withPast tr n)]
  exact congrArg₂ (fun a b : State => if s.pins.cfgOk then a.beginProgram .init else b) hbus habort

theorem State.enterWait_withPast (s : State) : (s.withPast tr n).enterWait = s.enterWait.withPast tr n := by
  unfold State.enterWait
  rw [apply_ite (State.withPast tr n)]
  rfl

theorem State.poll_withPast (s : State) : (s.withPast tr n).poll = s.poll.withPast tr n :=
  State.emit_withPast tr n [.poll s.pins.rdy] s

theorem State.passBarrier_withPast (s : State) : (s.withPast tr n).passBarrier = s.passBarrier.withPast tr n := by
  unfold State.passBarrier
  rw [State.poll_withPast]
  rfl

theorem State.countBusy_withPast (s : State) : (s.withPast tr n).countBusy = s.countBusy.withPast tr n := by
  unfold State.countBusy
  rw [State.poll_withPast]
  rfl

theorem State.streamByte_withPast (s : State) : (s.withPast tr n).streamByte = s.streamByte.withPast tr n := by
  rw [State.streamByte_eq, State.streamByte_eq]
  simp [State.withPast, streamConv]

theorem State.endChunk_withPast (s : State) : (s.withPast tr n).endChunk = s.endChunk.withPast tr n := by
  unfold State.endChunk
  rw [apply_ite (State.withPast tr n), State.pause_withPast]
  rfl

theorem State.endStream_withPast (s : State) : (s.withPast tr n).endStream = s.endStream.withPast tr n := by
  unfold State.endStream
  rw [apply_ite (State.withPast tr n)]
  rfl

end

/-- An instruction or a step that does the same whatever its past, or stops the same. -/
def IgnoresPast (f : State → Host.Outcome State Fault Refusal) : Prop :=
  ∀ (tr : List Event) (n : Rat) (s : State), f (s.withPast tr n) = mapNext (State.withPast tr n) (f s)

theorem IgnoresPast.next {g : State → State}
    (hg : ∀ tr n s, g (State.withPast tr n s) = (g s).withPast tr n) : IgnoresPast fun s => .next (g s) :=
  fun tr n s => congrArg Host.Outcome.next (hg tr n s)

/-- A stop says nothing of the past. -/
theorem IgnoresPast.fault (r : Fault) : IgnoresPast fun _ => .fault r := fun _ _ _ => rfl

theorem IgnoresPast.ite {c : State → Prop} [∀ s, Decidable (c s)] {f g : State → Host.Outcome State Fault Refusal}
    (hc : ∀ tr n s, c (State.withPast tr n s) ↔ c s) (hf : IgnoresPast f) (hg : IgnoresPast g) :
    IgnoresPast fun s => if c s then f s else g s := by
  intro tr n s
  simp only [hc, hf tr n s, hg tr n s]
  exact (apply_ite (mapNext (State.withPast tr n)) _ _ _).symm

theorem IgnoresPast.ifDriven {g : State → State}
    (hg : ∀ tr n s, g (State.withPast tr n s) = (g s).withPast tr n) : IgnoresPast fun s => ifDriven s (g s) :=
  .ite (fun _ _ _ => Iff.rfl) (.next hg) (.fault _)

theorem IgnoresPast.ifTaken {f : State → Host.Outcome State Fault Refusal} (hf : IgnoresPast f) :
    IgnoresPast fun s => ifTaken s (f s) :=
  .ite (fun _ _ _ => Iff.rfl) hf (.next fun _ _ _ => rfl)

theorem IgnoresPast.ifReady (op : HostOp) {f : State → Host.Outcome State Fault Refusal} (hf : IgnoresPast f) :
    IgnoresPast fun s => ifReady op s (f s) := by
  intro tr n s
  have hmode : (s.withPast tr n).mode = s.mode := rfl
  simp only [Machine.ifReady, hmode, hf tr n s, State.reject_withPast]
  cases s.mode
  all_goals rfl

theorem ignoresPast_xfer (v : Byte) : IgnoresPast (exec (.xfer v)) :=
  .ite (fun _ _ _ => Iff.rfl) (.fault _) <| .ite (fun _ _ _ => Iff.rfl) (.fault _) <|
    .ite (fun _ _ _ => Iff.rfl) (.fault _) <|
      .next fun tr n s => congrArg State.advance (s.transfer_withPast tr n v)

theorem ignoresPast_displayframe : IgnoresPast (exec .displayframe) := by
  refine .ifTaken (.ifReady _ (.next fun tr n s => ?_))
  rw [apply_ite (State.withPast tr n), ← State.reject_withPast]
  rfl

theorem ignoresPast_endOp : IgnoresPast (exec .endOp) := by
  intro tr n s
  have hprog : (s.withPast tr n).prog = s.prog := rfl
  simp only [exec, execEndOp, hprog, State.finish_withPast]
  cases s.prog
  all_goals rfl

theorem ignoresPast_waitrdy : IgnoresPast (exec .waitrdy) := by
  intro tr n s
  have hprog : (s.withPast tr n).prog = s.prog := rfl
  simp only [exec, execWaitrdy, hprog, State.enterWait_withPast, State.passBarrier_withPast,
    State.countBusy_withPast, State.abort_withPast, State.pause_withPast, apply_ite (mapNext (State.withPast tr n))]
  cases s.prog
  all_goals rfl

theorem ignoresPast_stream : IgnoresPast (exec .stream) := by
  refine .ite (fun _ _ _ => Iff.rfl) (.fault _) (.ite (fun _ _ _ => Iff.rfl) (.next fun _ _ _ => rfl) ?_)
  refine .ifDriven fun tr n s => ?_
  rw [State.streamByte_withPast, State.endChunk_withPast, State.endStream_withPast]

theorem ignoresPast_phase (p : Nibble) : IgnoresPast (exec (.phase p)) := by
  intro tr n s
  simp only [exec, execPhase]
  cases phaseOfCode p
  all_goals rfl

theorem ignoresPast_sendOnWire (fs : Config → List Frame) : IgnoresPast fun s => sendOnWire (fs s.cfg) s :=
  .ifDriven fun tr n s => State.sendFrames_withPast tr n (fs s.cfg) s

theorem ignoresPast_exec (i : Instr) : IgnoresPast (exec i) := by
  cases i with
  | hostopReserved => exact .ifTaken (.next fun tr n s => s.reject_withPast tr n _ _)
  | initializeOp => exact .ifTaken (.next fun tr n s => s.beginInit_withPast tr n)
  | displayframe => exact ignoresPast_displayframe
  | sleep => exact .ifTaken (.ifReady _ (.next fun _ _ _ => rfl))
  | endOp => exact ignoresPast_endOp
  | setcmd => exact .ifDriven fun tr n s => congrArg State.advance (s.select_withPast tr n _)
  | setdat => exact .ifDriven fun tr n s => congrArg State.advance (s.select_withPast tr n _)
  | xfer v => exact ignoresPast_xfer v
  | cmd c => exact .ifDriven fun tr n s => congrArg State.advance (s.sendFrame_withPast tr n _)
  | dat d => exact .ifDriven fun tr n s => congrArg State.advance (s.sendFrame_withPast tr n _)
  | rstw l => exact .ifDriven fun tr n s => congrArg State.advance (s.setRst_withPast tr n l)
  | delay d => exact .next fun tr n s => congrArg State.advance (s.hold_withPast tr n _)
  | waitrdy => exact ignoresPast_waitrdy
  | yield => exact .next fun tr n s => congrArg State.advance (s.pause_withPast tr n)
  | hardreset =>
    refine .ite (fun _ _ _ => Iff.rfl) (.ifDriven fun tr n s => ?_) (fun _ _ _ => rfl)
    exact congrArg State.advance (s.resetPulse_withPast tr n)
  | stream => exact ignoresPast_stream
  | phase p => exact ignoresPast_phase p
  | uopReservedD _ | uopReservedE _ | uopReservedF _ => exact .fault _
  | wireCmd _ | wireData _ | frameStart | powerOn | refresh | powerOff | deepSleep | initEntry _ _
  | pixelData _ _ => exact ignoresPast_sendOnWire (Instr.frames · _)

theorem ignoresPast_runUop (p : Prog) : IgnoresPast (runUop p) := by
  intro tr n s
  have hword : fetchWord p (s.withPast tr n) = fetchWord p s := rfl
  unfold runUop
  rw [hword]
  cases fetchWord p s with
  | none => rfl
  | some w =>
    dsimp only
    cases decodeUop w with
    | error e => rfl
    | ok i => exact ignoresPast_exec i tr n s

theorem ignoresPast_runRequest : IgnoresPast runRequest :=
  .ite (fun _ _ _ => Iff.rfl) (fun tr n s => ignoresPast_exec (decodeHostop s.pins.reqOp) tr n s)
    (.next fun _ _ _ => rfl)

theorem ignoresPast_runOnce : IgnoresPast runOnce := by
  intro tr n s
  have hprog : (s.withPast tr n).prog = s.prog := rfl
  unfold runOnce
  rw [hprog]
  cases s.prog with
  | none => exact ignoresPast_runRequest tr n s
  | some p => exact ignoresPast_runUop p tr n s

theorem IgnoresPast.thenSample {f : State → Host.Outcome State Fault Refusal} (hf : IgnoresPast f) :
    IgnoresPast fun s => thenSample (f s) := by
  intro tr n s
  simp only [hf tr n s]
  cases f s
  all_goals rfl

/-- A state with other ghost state is the state at the start of its ghost state with that past. -/
theorem State.withGhost_eq_withPast (tr : List Event) (n : Rat) (s : State) :
    s.withGhost tr n = (s.withGhost [] 0).withPast tr n := by
  simp [State.withGhost, State.withPast]

/-- What ignores the past does the same from the start of the ghost state, and its own past is put before that. -/
theorem IgnoresPast.eq_of_start {f : State → Host.Outcome State Fault Refusal} (hf : IgnoresPast f) (s : State) :
    f s = mapNext (State.withPast s.trace s.now) (f (s.withGhost [] 0)) := by
  rw [← hf, ← State.withGhost_eq_withPast]
  rfl

theorem IgnoresPast.appends {f : State → Host.Outcome State Fault Refusal} (hf : IgnoresPast f) {s t : State}
    (h : f s = .next t) : ∃ ev, t.trace = s.trace ++ ev := by
  rw [hf.eq_of_start] at h
  cases hu : f (s.withGhost [] 0) with
  | next u =>
    rw [hu] at h
    obtain rfl := Host.Outcome.next.inj h
    exact ⟨u.trace, rfl⟩
  | fault r => simp [hu, mapNext] at h
  | refused r => simp [hu, mapNext] at h

theorem IgnoresPast.withGhost {f : State → Host.Outcome State Fault Refusal} (hf : IgnoresPast f) (s : State)
    (tr : List Event) (n : Rat) :
    f (s.withGhost tr n) =
      mapNext (fun t => t.withGhost (tr ++ stepEvents s t) (n + (t.now - s.now))) (f s) := by
  rw [State.withGhost_eq_withPast, hf, hf.eq_of_start s]
  cases f (s.withGhost [] 0) with
  | next u => simp [mapNext, State.withPast, State.withGhost, stepEvents]
  | fault r => rfl
  | refused r => rfl

/-- Settles O59: every instruction, and the step without block reset, ignores the past. -/
theorem ghostStateIsNeverRead : Obligations.GhostStateIsNeverRead := by
  refine ⟨fun i s t => (ignoresPast_exec i).appends, fun i => (ignoresPast_exec i).withGhost, ?_, ?_⟩
  · intro s tr n hrst
    have hrst' : (s.withGhost tr n).pins.rst = false := hrst
    rw [step_of_not_rst hrst, step_of_not_rst hrst']
    exact ignoresPast_runOnce.thenSample.withGhost s tr n
  · intro s tr n hrst
    have hrst' : (s.withGhost tr n).pins.rst = true := hrst
    rw [step_of_rst hrst, step_of_rst hrst']
    rfl

end Sys2Proof.Machine

namespace Sys2Proof.Machine

/-! ### The place of a pixel in the frame buffer (20 R52)

A row of even width fills its bytes, so row and column half are the quotient and the remainder of the offset by the
length of a row. -/

theorem half_lt_rowBytes {c : Config} (heven : c.width % 2 = 0) {x : Nat} (hx : x < c.width) : x / 2 < rowBytes c := by
  unfold rowBytes pixPerByte
  omega

theorem frameBytes_eq_height_mul_rowBytes {c : Config} (heven : c.width % 2 = 0) :
    frameBytes c = c.height * rowBytes c := by
  unfold frameBytes rowBytes pixPerByte
  rw [Nat.mul_comm, Nat.mul_div_assoc _ (Nat.dvd_of_mod_eq_zero heven)]

theorem pixelOffset_lt_frameBytes {c : Config} (heven : c.width % 2 = 0) {x y : Nat} (hx : x < c.width)
    (hy : y < c.height) : pixelOffset c x y < frameBytes c :=
  calc pixelOffset c x y
    _ < y * rowBytes c + rowBytes c := Nat.add_lt_add_left (half_lt_rowBytes heven hx) _
    _ = (y + 1) * rowBytes c := (Nat.succ_mul y _).symm
    _ ≤ c.height * rowBytes c := Nat.mul_le_mul_right _ hy
    _ = frameBytes c := (frameBytes_eq_height_mul_rowBytes heven).symm

theorem pixelOffset_div_rowBytes {c : Config} (heven : c.width % 2 = 0) {x : Nat} (hx : x < c.width) (y : Nat) :
    pixelOffset c x y / rowBytes c = y := by
  have hhalf := half_lt_rowBytes heven hx
  rw [pixelOffset, Nat.mul_comm, Nat.mul_add_div (Nat.zero_lt_of_lt hhalf), Nat.div_eq_of_lt hhalf, Nat.add_zero]

theorem pixelOffset_mod_rowBytes {c : Config} (heven : c.width % 2 = 0) {x : Nat} (hx : x < c.width) (y : Nat) :
    pixelOffset c x y % rowBytes c = x / 2 := by
  rw [pixelOffset, Nat.mul_add_mod_of_lt (half_lt_rowBytes heven hx)]

/-- Settles O41: the offset gives back the row and half of the column; the parity of the column is the rest. -/
theorem everyPixelHasItsOwnNibble : Obligations.EveryPixelHasItsOwnNibble := by
  refine fun c heven => ⟨fun x y => pixelOffset_lt_frameBytes heven, fun x y x' y' hx hx' hoffset hparity => ?_⟩
  have hrow : y = y' := by
    rw [← pixelOffset_div_rowBytes heven hx y, hoffset, pixelOffset_div_rowBytes heven hx']
  have hhalf : x / 2 = x' / 2 := by
    rw [← pixelOffset_mod_rowBytes heven hx y, hoffset, pixelOffset_mod_rowBytes heven hx']
  exact ⟨by omega, hrow⟩

/-! ### The bits of a byte on the wire (20 R56, 40 R103) -/

/-- What the panel sees in period `k` is the slot of the serial side after `k` periods. -/
theorem Serial.slots_eq_map_periods (n : Nat) (x : Serial) :
    Serial.slots n x = (List.range n).map fun k => (Serial.periods k x).slot := by
  induction n generalizing x with
  | zero => rfl
  | succ n ih => simp [Serial.slots, ih, List.range_succ_eq_map, Serial.periods]

/-- `MOSI` in period `k` is bit 7 of the shift register's start value moved up by `k`. -/
theorem Serial.slots_map_mosi (n : Nat) (x : Serial) :
    (Serial.slots n x).map BitSlot.mosi = (List.range n).map fun k => (x.sh <<< k).getLsbD 7 := by
  simp [Serial.slots_eq_map_periods, Serial.slot, Serial.periods_sh]

/-- Settles O14: bit 7 of the byte moved up by `k` is bit `7 - k`. -/
theorem bytesGoOutMostSignificantBitFirst : Obligations.BytesGoOutMostSignificantBitFirst := by
  intro v
  rw [byteSlots, Serial.slots_map_mosi]
  simp [Serial.load, List.range_succ]

end Sys2Proof.Machine

namespace Sys2Proof.Machine

/-! ### The fields of a micro-operation word (30 R74, R85) -/

@[simp] theorem uopKind_uopWord (k : Nibble) (v : Byte) : uopKind (uopWord k v) = k :=
  BitVec.extractLsb'_append_eq_left

@[simp] theorem uopImm_uopWord (k : Nibble) (v : Byte) : uopImm (uopWord k v) = v :=
  BitVec.extractLsb'_append_eq_right

@[simp] theorem uopWord_kind_imm (w : UopWord) : uopWord (uopKind w) (uopImm w) = w :=
  BitVec.extractLsb'_append_extractLsb'

theorem uopWord_toNat (k : Nibble) (v : Byte) : (uopWord k v).toNat = k.toNat * 256 + v.toNat := by
  rw [uopWord, BitVec.toNat_append, ← Nat.shiftLeft_add_eq_or_of_lt v.isLt, Nat.shiftLeft_eq]

/-- Settles O8. -/
theorem wordArithmeticAndExamples : Obligations.WordArithmeticAndExamples :=
  ⟨uopWord_toNat, fun _ => ⟨rfl, rfl, rfl, rfl, rfl, rfl, rfl, rfl, rfl, rfl, rfl, rfl⟩,
    rfl, rfl, rfl, rfl, rfl, rfl, rfl, rfl, rfl, rfl, rfl, rfl⟩

/-! ### What the decoder of micro-operation words answers (30 R75, R76, R81)

A word either has an immediate that is reserved for its kind, and is rejected, or it is the word of the instruction it
decodes to. `Answers w r` says this of the answer `r`; one case split over the kinds shows it of `decodeUop w`. -/

/-- The immediate of a word has a value that 30 R75 and R76 reserve for its kind. -/
def ReservedImm (w : UopWord) : Prop :=
  (uopKind w ∈ ([0x0, 0x1, 0x2, 0x8, 0x9, 0xA, 0xB] : List Nibble) ∧ uopImm w ≠ 0) ∨
    (uopKind w = 0x6 ∧ 1 < (uopImm w).toNat) ∨ (uopKind w = 0xC ∧ 8 < (uopImm w).toNat)

/-- An answer that fits the word: an instruction whose word it is, or an error where its immediate is reserved. -/
inductive Answers (w : UopWord) : Except DecodeError Instr → Prop
  | ok {i : Instr} (hfree : ¬ ReservedImm w) (hword : ∀ c, encode c i = .uop w) : Answers w (.ok i)
  | error {e : DecodeError} (hreserved : ReservedImm w) : Answers w (.error e)

section
variable {w : UopWord} {n : Nat} (hkind : (uopKind w).toNat = n)
include hkind

theorem uopKind_eq_of_toNat : uopKind w = BitVec.ofNat 4 n := by
  rw [← hkind, BitVec.ofNat_toNat, BitVec.setWidth_eq]

/-- A word is known by its two fields. -/
theorem uopWord_eq_of_fields {v : Byte} (himm : uopImm w = v) : uopWord (BitVec.ofNat 4 n) v = w := by
  rw [← uopKind_eq_of_toNat hkind, ← himm, uopWord_kind_imm]

/-- The kinds whose immediate is a whole byte, and the reserved kinds. -/
theorem Answers.anyImm {i : Instr} (hn : n ∉ [0x0, 0x1, 0x2, 0x6, 0x8, 0x9, 0xA, 0xB, 0xC])
    (hword : ∀ c, encode c i = .uop (uopWord (BitVec.ofNat 4 n) (uopImm w))) : Answers w (.ok i) := by
  refine .ok ?_ fun c => ?_
  · simp only [List.mem_cons, List.not_mem_nil, or_false, not_or] at hn
    simp [ReservedImm, ← BitVec.toNat_inj, hkind, hn]
  · rw [hword, uopWord_eq_of_fields hkind rfl]

/-- The kinds whose immediate must be 0. -/
theorem Answers.needZeroImm {i : Instr}
    (hn : BitVec.ofNat 4 n ∈ ([0x0, 0x1, 0x2, 0x8, 0x9, 0xA, 0xB] : List Nibble))
    (hword : ∀ c, encode c i = .uop (uopWord (BitVec.ofNat 4 n) 0)) : Answers w (needZeroImm w i) := by
  unfold Sys2Proof.needZeroImm
  split
  · rename_i himm
    refine .ok ?_ fun c => ?_
    · simp [ReservedImm, himm]
    · rw [hword, uopWord_eq_of_fields hkind himm]
  · rename_i himm
    exact .error (.inl ⟨uopKind_eq_of_toNat hkind ▸ hn, himm⟩)

end

/-! RSTW keeps `imm[7:1]` at 0 and PHASE `imm[7:4]`: what these bits say of the value of the byte. -/

theorem rstwHighBits_zero : ∀ v : Byte, v.extractLsb' 1 7 = 0 →
    v.toNat ≤ 1 ∧ levelByte (levelOfBit (v.getLsbD 0)) = v := by decide

theorem rstwHighBits_nonzero : ∀ v : Byte, v.extractLsb' 1 7 ≠ 0 → 1 < v.toNat := by decide

theorem phaseHighBits_zero : ∀ v : Byte, v.extractLsb' 4 4 = 0 →
    v.toNat = (v.extractLsb' 0 4).toNat ∧ (v.extractLsb' 0 4).setWidth 8 = v := by decide

theorem phaseHighBits_nonzero : ∀ v : Byte, v.extractLsb' 4 4 ≠ 0 → 8 < v.toNat := by decide

theorem Answers.rstw {w : UopWord} (hkind : (uopKind w).toNat = 0x6) : Answers w (decodeRstw w) := by
  unfold decodeRstw
  split
  · rename_i hbits
    obtain ⟨hle, himm⟩ := rstwHighBits_zero _ hbits
    refine .ok ?_ fun c => ?_
    · simp [ReservedImm, ← BitVec.toNat_inj, hkind, hle]
    · exact congrArg Words.uop (uopWord_eq_of_fields hkind himm.symm)
  · rename_i hbits
    exact .error (.inr (.inl ⟨uopKind_eq_of_toNat hkind, rstwHighBits_nonzero _ hbits⟩))

theorem Answers.phase {w : UopWord} (hkind : (uopKind w).toNat = 0xC) : Answers w (decodePhase w) := by
  unfold decodePhase
  split
  · rename_i hbits
    exact .error (.inr (.inr ⟨uopKind_eq_of_toNat hkind, phaseHighBits_nonzero _ hbits⟩))
  · rename_i hbits
    obtain ⟨hval, himm⟩ := phaseHighBits_zero _ (not_not.1 hbits)
    rw [← hval]
    split
    · rename_i hcode
      exact .error (.inr (.inr ⟨uopKind_eq_of_toNat hkind, hcode⟩))
    · rename_i hcode
      refine .ok ?_ fun c => ?_
      · simp [ReservedImm, ← BitVec.toNat_inj, hkind, Nat.not_lt.1 hcode]
      · exact congrArg Words.uop (uopWord_eq_of_fields hkind himm.symm)

/-- The answer of the decoder fits the word, kind by kind. -/
theorem decodeUop_answers (w : UopWord) : Answers w (decodeUop w) := by
  unfold decodeUop
  split
  case h_7 hkind => exact .rstw hkind
  case h_13 hkind => exact .phase hkind
  case h_1 hkind | h_2 hkind | h_3 hkind | h_9 hkind | h_10 hkind | h_11 hkind | h_12 hkind =>
    exact .needZeroImm hkind (by decide) fun _ => rfl
  case h_4 hkind | h_5 hkind | h_6 hkind | h_8 hkind | h_14 hkind | h_15 hkind =>
    exact .anyImm hkind (by decide) fun _ => rfl
  case h_16 =>
    have hkind : (uopKind w).toNat = 0xF := by
      have hlt := (uopKind w).isLt
      grind
    exact .anyImm hkind (by decide) fun _ => rfl

theorem Answers.word {w : UopWord} {i : Instr} (h : Answers w (.ok i)) (c : Config) : encode c i = .uop w := by
  cases h with
  | ok hfree hword => exact hword c

theorem Answers.error_iff {w : UopWord} {r : Except DecodeError Instr} (h : Answers w r) :
    (∃ e, r = .error e) ↔ ReservedImm w := by
  cases h with
  | ok hfree hword => simp [hfree]
  | error hreserved => simp [hreserved]

/-- Settles O6. -/
theorem encodeOfDecodedWordIsTheWord : Obligations.EncodeOfDecodedWordIsTheWord :=
  fun w _ h => (h ▸ decodeUop_answers w).word

/-- Settles O7. -/
theorem rejectedWordsAreTheReservedOnes : Obligations.RejectedWordsAreTheReservedOnes :=
  fun w => (decodeUop_answers w).error_iff

/-- A word that is no micro-operation is rejected, or has a reserved kind (30 R81 (b)). -/
theorem isUop_eq_false {w : UopWord} (h : isUop w = false) :
    (∃ e, decodeUop w = .error e) ∨ ∃ imm, decodeUop w = .ok (.uopReservedD imm) ∨
      decodeUop w = .ok (.uopReservedE imm) ∨ decodeUop w = .ok (.uopReservedF imm) := by
  unfold isUop at h
  split at h
  case h_1 imm hw => exact .inr ⟨imm, .inl hw⟩
  case h_2 imm hw => exact .inr ⟨imm, .inr (.inl hw)⟩
  case h_3 imm hw => exact .inr ⟨imm, .inr (.inr hw)⟩
  case h_4 => cases h
  case h_5 e hw => exact .inl ⟨e, hw⟩

theorem runUop_of_rejected {s : State} {p : Prog} {w : UopWord} {e : DecodeError}
    (hw : (s.rom.words p)[s.upc]? = some w) (he : decodeUop w = .error e) : runUop p s = .fault .illegalUop := by
  simp [runUop, fetchWord, hw, he]

theorem runUop_of_not_isUop {s : State} {p : Prog} {w : UopWord} (hw : (s.rom.words p)[s.upc]? = some w)
    (h : isUop w = false) : runUop p s = .fault .illegalUop := by
  obtain ⟨e, he⟩ | ⟨imm, hi⟩ := isUop_eq_false h
  · exact runUop_of_rejected hw he
  · obtain hi | hi | hi := hi
    all_goals exact runUop_of_word hw hi

/-- Settles O4: the word is not run, or its row answers the fault. -/
theorem illegalWordsStopTheMachine : Obligations.IllegalWordsStopTheMachine := by
  refine ⟨fun s p w hrst hp hw h => ?_, fun _ _ => ⟨rfl, rfl, rfl⟩, fun s p hp => ?_⟩
  · rw [step_of_prog hrst hp, runUop_of_not_isUop hw h, thenSample_fault]
  · simp [exec, execPhase, phaseOfCode_of_reserved hp]

/-! ### The bits of a wire frame (30 R71, R80) -/

theorem wordFrame_frameWord (f : Frame) : wordFrame (frameWord f) = f := by
  obtain ⟨m, v⟩ := f
  have hbyte : (frameWord (m, v)).extractLsb' 0 8 = v := BitVec.extractLsb'_append_eq_right
  have hbit : (frameWord (m, v)).getLsbD 8 = (modeBit m).getLsbD 0 := BitVec.getLsbD_append
  rw [wordFrame, hbyte, hbit]
  cases m
  · rfl
  · rfl

theorem frameWord_toNat (f : Frame) : (frameWord f).toNat = (modeBit f.1).toNat * 256 + f.2.toNat := by
  rw [frameWord, BitVec.toNat_append, ← Nat.shiftLeft_add_eq_or_of_lt f.2.isLt, Nat.shiftLeft_eq]

theorem firstPixel_packPixels (p0 p1 : Nibble) : firstPixel (packPixels p0 p1) = p0 :=
  BitVec.extractLsb'_append_eq_left

theorem secondPixel_packPixels (p0 p1 : Nibble) : secondPixel (packPixels p0 p1) = p1 :=
  BitVec.extractLsb'_append_eq_right

/-! ### Decoding what was encoded (30 R70) -/

theorem decodeUop_phase : ∀ p : Nibble, p.toNat ≤ 8 → decodeUop (uopWord 0xC (p.setWidth 8)) = .ok (.phase p) := by
  decide

/-- The words of frames are read as these frames. -/
theorem decode_wire (c : Config) (ctx : Option Phase) (fs : List Frame) :
    decode c ctx (.wire (fs.map frameWord)) = decodeMessage c ctx fs := by
  simp [decode, Function.comp_def, wordFrame_frameWord]

theorem decodeMessage_initEntry {c : Config} {b : Byte} {ds : List Byte} (hmem : (b, ds) ∈ c.initTable) :
    decodeMessage c (some .initReplay) (messageFrames b ds) = .ok (.initEntry b ds) := by
  simp [decodeMessage, messageFrames, hmem, Function.comp_def]

/-- Settles O5: a request and a micro-operation by their fields, a wire row by its frames in its context. -/
theorem decodeOfEncodeIsTheInstruction : Obligations.DecodeOfEncodeIsTheInstruction := by
  intro c i hwf
  cases i with
  | hostopReserved | initializeOp | displayframe | sleep => rfl
  | endOp | setcmd | setdat | waitrdy | yield | hardreset | stream => rfl
  | xfer v | cmd v | dat v | delay v | uopReservedD v | uopReservedE v | uopReservedF v =>
    simp [decode, encode, decodeUop]
  | rstw l =>
    cases l
    · rfl
    · rfl
  | phase p => exact decodeUop_phase p (of_decide_eq_true hwf)
  | wireCmd v | wireData v =>
    simp only [encode, decode_wire, Instr.frames, Instr.context, decodeMessage, decodeWire, wordFrame_frameWord]
  | frameStart | powerOn | refresh | powerOff | deepSleep =>
    simp only [encode, decode_wire, Instr.context]
    exact if_pos rfl
  | initEntry b ds =>
    simp only [encode, decode_wire]
    exact decodeMessage_initEntry (of_decide_eq_true hwf)
  | pixelData p0 p1 =>
    simp only [encode, decode_wire, Instr.frames, Instr.context, decodeMessage, firstPixel_packPixels,
      secondPixel_packPixels]

/-! ### Messages and their frames (30 R82, R84) -/

/-- Data frames join the message, or the beginning, before them. -/
theorem splitMessages_data_append (ds : List Byte) (fs : List Frame) :
    splitMessages (ds.map (fun d => (.data, d)) ++ fs) = (ds ++ (splitMessages fs).1, (splitMessages fs).2) := by
  induction ds with
  | nil => rfl
  | cons d ds ih => simp [splitMessages, ih]

/-- A message before messages: its data bytes end where the next command frame stands. -/
theorem splitMessages_messageFrames_append (b : Byte) (ds : List Byte) {fs : List Frame}
    {ms : List (Byte × List Byte)} (hfs : splitMessages fs = ([], ms)) :
    splitMessages (messageFrames b ds ++ fs) = ([], (b, ds) :: ms) := by
  simp [messageFrames, splitMessages, splitMessages_data_append, hfs]

/-- Settles O13, by induction on the messages. -/
theorem messagesAreRecoverableFromFrames : Obligations.MessagesAreRecoverableFromFrames := by
  intro ms
  induction ms with
  | nil => rfl
  | cons m ms ih => exact splitMessages_messageFrames_append m.1 m.2 ih

/-! ### The wire rows on a driven bus (30 R71, R77, R78, R80) -/

/-- A wire row puts its frames on the pins. -/
theorem exec_wire_of_drv {i : Instr} {s : State} (hw : i.format = .wire) (hdrv : s.drv = true) :
    exec i s = .next (State.sendFrames (i.frames s.cfg) s) := by
  cases i with
  | wireCmd _ | wireData _ | frameStart | powerOn | refresh | powerOff | deepSleep | initEntry _ _
  | pixelData _ _ => exact ifDriven_of_drv _ hdrv
  | _ => cases hw

/-- Settles O22. -/
theorem wireFrameOnThePins : Obligations.WireFrameOnThePins := by
  refine ⟨fun v => ⟨?_, ?_, wordFrame_frameWord _, wordFrame_frameWord _⟩, fun v s hdrv => ⟨?_, ?_⟩⟩
  · simp [frameWord_toNat, modeBit]
  · simp [frameWord_toNat, modeBit]
  all_goals
    rw [exec_wire_of_drv rfl hdrv]
    simp [Instr.frames, State.sendFrame_eq, frameEvents]

/-- Settles O23: the rows send one frame or two. -/
theorem panelCommandsOnThePins : Obligations.PanelCommandsOnThePins := by
  intro s hdrv
  refine ⟨?_, ?_, ?_, ?_⟩
  all_goals
    rw [exec_wire_of_drv rfl hdrv]
    simp [Instr.frames, messageFrames, State.sendFrame_eq]

theorem State.sendFrames_data_dc (ds : List Byte) (s : State) :
    (State.sendFrames (ds.map fun d => (.data, d)) s).dc = if ds = [] then s.dc else some .data := by
  induction ds generalizing s with
  | nil => rfl
  | cons d ds ih => simp [ih]

/-- A whole message, field by field but for the serial registers. -/
theorem State.sendFrames_message (b : Byte) (ds : List Byte) (s : State) :
    State.sendFrames (messageFrames b ds) s =
      { s with
        dc := some (if ds = [] then .cmd else .data)
        cs := some .high
        ser := (State.sendFrames (messageFrames b ds) s).ser
        dcFresh := false
        trace := s.trace ++ framesEvents (messageFrames b ds) } := by
  obtain ⟨hcs, hfresh⟩ := State.sendFrames_lines (fs := messageFrames b ds) nofun s
  have hdc : (State.sendFrames (messageFrames b ds) s).dc = some (if ds = [] then .cmd else .data) := by
    rw [messageFrames, State.sendFrames_cons, State.sendFrames_data_dc, State.sendFrame_dc, apply_ite some]
  conv_lhs => rw [State.sendFrames_frame, hcs, hfresh, hdc, State.sendFrames_trace]

/-- Settles O24: two rows send a message, the third one frame. -/
theorem messagesOnThePins : Obligations.MessagesOnThePins := by
  intro s hdrv
  refine ⟨⟨_, exec_wire_of_drv rfl hdrv, ?_⟩, fun c ds => ⟨_, exec_wire_of_drv rfl hdrv, ?_⟩, fun p0 p1 => ?_⟩
  · exact State.sendFrames_message _ _ s
  · exact State.sendFrames_message _ _ s
  · rw [exec_wire_of_drv rfl hdrv]
    simp [Instr.frames, State.sendFrame_eq, packPixels]

/-! ### The composite micro-operations and their expansions (30 R84)

An expansion leaves the state that the composite's one operation leaves, with `UPC` moved on once per word. -/

theorem exec_xfer_of_fresh {s : State} (hdrv : s.drv = true) (hfresh : s.dcFresh = true) (hcs : s.cs = some .high)
    (v : Byte) : exec (.xfer v) s = .next (s.transfer v).advance := by
  simp [exec, execXfer, hdrv, hfresh, hcs]

/-- A discriminator write and a transfer are a frame. -/
theorem execList_select_xfer {i : Instr} {m : DcMode} {s : State} (hi : exec i s = .next (s.select m).advance)
    (hdrv : s.drv = true) (hcs : s.cs = some .high) (b : Byte) :
    execList [i, .xfer b] s = .next { (s.sendFrame (m, b)) with upc := s.upc + 2 } := by
  have hxfer := exec_xfer_of_fresh (s := (s.select m).advance) hdrv rfl hcs b
  simp only [execList, hi, hxfer]
  rfl

theorem exec_rstw_of_drv {s : State} (hdrv : s.drv = true) (l : Level) :
    exec (.rstw l) s = .next (s.setRst l).advance := ifDriven_of_drv _ hdrv

theorem execList_rstw_delay {s : State} (hdrv : s.drv = true) (l : Level) (t : Byte) (is : List Instr) :
    execList (.rstw l :: .delay t :: is) s = execList is ((s.setRst l).advance.hold t.toNat).advance := by
  rw [execList, exec_rstw_of_drv hdrv]
  rfl

theorem execList_hardreset_expansion {s : State} (hdrv : s.drv = true) (h1 : s.cfg.tRstHi1 = 20)
    (h2 : s.cfg.tRstLo = 1) (h3 : s.cfg.tRstHi2 = 20) :
    execList (Instr.hardreset.expansion s.cfg) s = .next { s.resetPulse with upc := s.upc + 6 } := by
  simp only [State.resetPulse, Instr.expansion, h1, h2, h3]
  rw [execList_rstw_delay hdrv, execList_rstw_delay (by simpa using hdrv), execList_rstw_delay (by simpa using hdrv)]
  rfl

theorem exec_hardreset_of_drv {s : State} (hdrv : s.drv = true) (hholds : holdsOk s.cfg = true) :
    exec .hardreset s = .next s.resetPulse.advance := by
  simp [exec, execHardreset, hholds, ifDriven_of_drv _ hdrv]

/-- Settles O20: composite and expansion leave one and the same operation, a frame or the reset pulse. -/
theorem compositesEqualTheirExpansions : Obligations.CompositesEqualTheirExpansions := by
  rintro i s (⟨b, rfl | rfl⟩ | rfl) hdrv hcs h1 h2 h3
  · have hset : exec .setcmd s = .next (s.select .cmd).advance := ifDriven_of_drv _ hdrv
    exact ⟨_, _, ifDriven_of_drv _ hdrv, execList_select_xfer hset hdrv hcs b, rfl, rfl⟩
  · have hset : exec .setdat s = .next (s.select .data).advance := ifDriven_of_drv _ hdrv
    exact ⟨_, _, ifDriven_of_drv _ hdrv, execList_select_xfer hset hdrv hcs b, rfl, rfl⟩
  · have hholds : holdsOk s.cfg = true := by simp [holdsOk, h1, h2, h3]
    exact ⟨_, _, exec_hardreset_of_drv hdrv hholds, execList_hardreset_expansion hdrv h1 h2 h3, rfl, rfl⟩

/-! ### The serial registers in a select window (30 R72, 40 R103) -/

theorem Serial.periods_bc (n : Nat) (x : Serial) : (Serial.periods n x).bc = x.bc + BitVec.ofNat 4 n := by
  induction n generalizing x with
  | zero => simp [Serial.periods]
  | succ n ih => simp [Serial.periods, ih, Serial.period, add_comm n 1, BitVec.ofNat_add, add_assoc]

theorem Serial.slots_getElem? {n k : Nat} (hk : k < n) (x : Serial) :
    (Serial.slots n x)[k]? = some { mosi := (x.sh <<< k).getLsbD 7, sck := [.idle, .active, .idle] } := by
  simp [Serial.slots_eq_map_periods, hk, Serial.slot, Serial.periods_sh]

theorem getLsbD_shiftLeft_seven {k : Nat} (hk : k < 8) (v : Byte) : (v <<< k).getLsbD 7 = v.getLsbD (7 - k) := by
  rw [BitVec.getLsbD_shiftLeft, decide_eq_true (by decide), decide_eq_false (by omega)]
  rfl

/-- Settles O15. -/
theorem shiftRegisterFollowsTheByte : Obligations.ShiftRegisterFollowsTheByte := by
  refine fun v x => ⟨Serial.slots_length _ _, fun k hk => ?_, fun n _ => ⟨Serial.periods_sh _ _, ?_⟩, rfl, rfl, ?_⟩
  · rw [Serial.slots_getElem? hk, Serial.load, getLsbD_shiftLeft_seven hk]
  · exact (Serial.periods_bc n _).trans (BitVec.zero_add _)
  · exact Serial.periods_bc 8 (x.load v)

end Sys2Proof.Machine

namespace Sys2Proof.Machine

/-! ### The bus transport micro-operations (40 R100 to R105) -/

/-- A byte in its own select window, field by field (40 R102, R103). -/
theorem State.transfer_eq (v : Byte) (s : State) :
    s.transfer v =
      { s with
        cs := some .high
        ser := s.ser.shiftOut v
        dcFresh := false
        trace := s.trace ++ [.csW .low, .byte v, .csW .high] } := by
  simp [State.transfer, State.setCs, State.emit, State.clearFresh]

/-- A step that sends one frame and moves on, as CMD and DAT do (40 R104, R105). -/
theorem ifDriven_sendFrame_advance {s : State} (hdrv : s.drv = true) (f : Frame) :
    ifDriven s (s.sendFrame f).advance =
      .next { s with
        dc := some f.1, cs := some .high, ser := s.ser.shiftOut f.2, dcFresh := false,
        trace := s.trace ++ frameEvents f, upc := s.upc + 1 } := by
  rw [ifDriven_of_drv _ hdrv, State.sendFrame_eq, State.advance]

/-- Settles O16: SETCMD and SETDAT are the discriminator write on a driven bus, and a fault otherwise. -/
theorem discriminatorWritesEffect : Obligations.DiscriminatorWritesEffect := by
  refine ⟨fun _ => ⟨rfl, rfl⟩, fun s => ⟨fun hdrv => ?_, fun hdrv => ?_⟩⟩
  · exact ⟨ifDriven_of_drv _ hdrv, ifDriven_of_drv _ hdrv⟩
  · exact ⟨ifDriven_of_not_drv _ hdrv, ifDriven_of_not_drv _ hdrv⟩

/-- Settles O17: one case per requirement, and the transfer when all three are met. -/
theorem xferEffect : Obligations.XferEffect := by
  refine fun v s => ⟨fun hdrv hfresh hcs => ?_, fun hdrv => ?_, fun hdrv hfresh => ?_, fun hdrv hfresh hcs => ?_⟩
  · rw [exec_xfer_of_fresh hdrv hfresh hcs, State.transfer_eq, State.advance]
  · simp [exec, execXfer, hdrv]
  · simp [exec, execXfer, hdrv, hfresh]
  · simp [exec, execXfer, hdrv, hfresh, hcs]

/-- Settles O18: CMD sends one command frame. -/
theorem cmdEffect : Obligations.CmdEffect := fun c _ =>
  ⟨fun hdrv => ifDriven_sendFrame_advance hdrv (.cmd, c), fun hdrv => ifDriven_of_not_drv _ hdrv⟩

/-- Settles O19: DAT sends one data frame. -/
theorem datEffect : Obligations.DatEffect := fun d _ =>
  ⟨fun hdrv => ifDriven_sendFrame_advance hdrv (.data, d), fun hdrv => ifDriven_of_not_drv _ hdrv⟩

/-! ### One byte of the stream (44 R184) -/

/-- STREAM with a byte left, on a driven bus, sends it. -/
theorem exec_stream_of_drv {s : State} (hdrv : s.drv = true) (hp : s.prog = some .display)
    (hb : s.bcnt < frameBytes s.cfg) : exec .stream s = .next s.streamByte.endChunk.endStream := by
  simp [exec, execStream, hp, Nat.not_le.2 hb, ifDriven_of_drv _ hdrv]

/-- The end of a chunk clears `CCNT` and yields; short of it nothing happens. -/
theorem State.endChunk_eq (s : State) :
    s.endChunk =
      { s with
        ccnt := if s.ccnt = chunkBytes s.cfg ∨ s.bcnt = frameBytes s.cfg then 0 else s.ccnt
        now := s.endChunk.now
        tmr := s.endChunk.tmr
        draws := s.endChunk.draws
        trace := s.trace ++ if s.ccnt = chunkBytes s.cfg ∨ s.bcnt = frameBytes s.cfg then [.yield] else [] } := by
  unfold State.endChunk
  split
  · rfl
  · rw [List.append_nil]

/-- A yield lets time pass, so the clock does not go back at the end of a chunk. -/
theorem State.now_le_endChunk_now (s : State) : s.now ≤ s.endChunk.now := by
  unfold State.endChunk
  split
  · exact le_add_of_nonneg_right (freeInterval_pos _).le
  · exact le_rfl

theorem State.endStream_eq (s : State) :
    s.endStream = { s with upc := if s.bcnt = frameBytes s.cfg then s.upc + 1 else s.upc } := by
  unfold State.endStream
  split
  · rfl
  · rfl

/-- Settles O37: the byte is sent, then its chunk and the stream end where the counts say so. -/
theorem streamSendsOneByte : Obligations.StreamSendsOneByte := by
  intro s b ws hp hdrv hb hconv
  have hbyte : streamConv s = (b, ws) := hconv
  refine ⟨_, exec_stream_of_drv hdrv hp hb, ?_, ?_⟩
  · rw [State.endStream_eq]
    have hnow : s.streamByte.now = s.now := by rw [State.streamByte_eq]
    exact hnow.ge.trans <| State.now_le_endChunk_now s.streamByte
  · rw [State.endStream_eq, State.endChunk_eq, State.streamByte_eq, hbyte]
    rfl

end Sys2Proof.Machine

namespace Sys2Proof.Machine

/-! ### The reset line, holds and yields (41 R120 to R124) -/

theorem uopWord_eq_ofNat (k : Nibble) (v : Byte) : uopWord k v = BitVec.ofNat 12 (k.toNat * 256 + v.toNat) := by
  rw [← uopWord_toNat, BitVec.ofNat_toNat, BitVec.setWidth_eq]

/-- A hold lasts at least as long as it says. -/
theorem State.now_add_le_hold_now (d : Nat) (s : State) : s.now + d ≤ (s.hold d).now :=
  le_add_of_nonneg_right (freeExcess_nonneg _)

/-- Some time above 0 passes in a yield. -/
theorem State.now_lt_pause_now (s : State) : s.now < s.pause.now :=
  lt_add_of_pos_right _ (freeInterval_pos _)

/-- The reset pulse lasts at least as long as its three holds together. -/
theorem State.now_add_holds_le_resetPulse_now (s : State) :
    s.now + s.cfg.tRstHi1 + s.cfg.tRstLo + s.cfg.tRstHi2 ≤ s.resetPulse.now := by
  simp only [s.resetPulse_eq]
  linarith [freeExcess_nonneg s.draws, freeExcess_nonneg (s.draws + 1), freeExcess_nonneg (s.draws + 2)]

theorem holdsOk_iff (c : Config) : holdsOk c = true ↔ 20 ≤ c.tRstHi1 ∧ 1 ≤ c.tRstLo ∧ 20 ≤ c.tRstHi2 := by
  simp [holdsOk, and_assoc]

/-- HARDRESET is refused where a hold is too short, whether the bus is driven or not (41 R123). -/
theorem exec_hardreset_of_short {s : State} (hshort : ¬ holdsOk s.cfg = true) :
    exec .hardreset s = .refused .shortResetHold := if_neg hshort

/-- Settles O25: RSTW is the write of the reset line on a driven bus, and a fault otherwise. -/
theorem rstwEffect : Obligations.RstwEffect :=
  ⟨fun _ => ⟨rfl, rfl⟩, fun l _ => ⟨fun hdrv => exec_rstw_of_drv hdrv l, fun hdrv => ifDriven_of_not_drv _ hdrv⟩⟩

/-- Settles O26: DELAY is one hold, on a driven bus or not. -/
theorem delayEffect : Obligations.DelayEffect :=
  ⟨fun _ d => congrArg Words.uop (uopWord_eq_ofNat 0x7 d),
    fun d s => ⟨_, rfl, s.now_add_le_hold_now d.toNat, rfl⟩⟩

/-- Settles O27: the holds are long enough, so HARDRESET is the reset pulse where the bus is driven. -/
theorem hardresetEffect : Obligations.HardresetEffect := by
  refine ⟨fun _ => rfl, fun s h1 h2 h3 => ?_⟩
  have hholds : holdsOk s.cfg = true := (holdsOk_iff _).2 ⟨h1.ge, h2.ge, h3.ge⟩
  refine ⟨fun hdrv => ⟨_, exec_hardreset_of_drv hdrv hholds, ?_, ?_⟩, fun hdrv => exec_hardreset_of_not_drv hdrv hholds⟩
  · have hnow := s.now_add_holds_le_resetPulse_now
    rw [h1, h2, h3] at hnow
    push_cast at hnow
    rw [State.advance_now]
    linarith
  · rw [s.resetPulse_eq, pulseEvents, h1, h2, h3]
    rfl

/-- Settles O28: the configuration alone decides between the refusal and the reset pulse. -/
theorem shortResetHoldsAreRefused : Obligations.ShortResetHoldsAreRefused := by
  refine fun s => ⟨fun hshort => exec_hardreset_of_short ?_, fun h1 h2 h3 hdrv => ?_⟩
  · rw [holdsOk_iff]
    omega
  · refine ⟨_, exec_hardreset_of_drv hdrv ((holdsOk_iff _).2 ⟨h1, h2, h3⟩), s.now_add_holds_le_resetPulse_now, ?_⟩
    rw [s.resetPulse_eq, State.advance]

/-- Settles O29: the one event of the step is the yield. -/
theorem yieldEffect : Obligations.YieldEffect :=
  ⟨fun _ => rfl, fun s => ⟨_, rfl, s.now_lt_pause_now, by simp [yieldOut, stepEvents, Event.isYield], rfl⟩⟩

/-! ### One poll of the barrier (41 R125, R126, R128) -/

/-- The busy polls that the WAITRDY at `UPC` has made so far: `PCNT` once it has begun, none before (41 R126). -/
def State.busyPolls (s : State) : Nat := if s.inWait then s.pcnt else 0

theorem State.enterWait_eq (s : State) : s.enterWait = { s with pcnt := s.busyPolls } := by
  unfold State.enterWait State.busyPolls
  split
  · rfl
  · rfl

theorem exec_waitrdy_of_ready {s : State} (hr : s.pins.rdy = true) :
    exec .waitrdy s = .next { s with
      pcnt := s.busyPolls, inWait := false, trace := s.trace ++ [.poll true], upc := s.upc + 1 } := by
  simp [exec, execWaitrdy, hr, State.enterWait_eq, State.passBarrier, State.poll, State.emit, State.advance]

/-- The state after a busy poll that is to be repeated: the poll counted, then the yield. -/
def State.pollBusy (s : State) : State :=
  { s with
    pcnt := s.busyPolls + 1, inWait := true, now := s.now + freeInterval s.draws, tmr := 0, draws := s.draws + 1
    trace := s.trace ++ [.poll false, .yield] }

theorem exec_waitrdy_of_busy {s : State} (hr : s.pins.rdy = false) (hbound : belowBound s.cfg (s.busyPolls + 1)) :
    exec .waitrdy s = .next s.pollBusy := by
  have hmore : timedOut s.cfg (s.busyPolls + 1) = false := (timedOut_eq_false_iff _ _).2 hbound
  simp [exec, execWaitrdy, hr, hmore, State.enterWait_eq, State.countBusy, State.poll, State.pause, State.emit,
    State.pollBusy]

theorem exec_waitrdy_of_timeout {s : State} {p : Prog} {n : Nat} (htimeout : s.cfg.busyTimeout = some n)
    (hp : s.prog = some p) (hr : s.pins.rdy = false) (hn : n ≤ s.busyPolls + 1) :
    exec .waitrdy s = .next { s with
      status := .hwNotResponding, mode := .unconfigured, phase := .idle, prog := none, upc := 0, fb := [],
      pcnt := s.busyPolls + 1, inWait := false,
      trace := s.trace ++ [.poll false, .done p.op .hwNotResponding] } := by
  have hreached : timedOut s.cfg (s.busyPolls + 1) = true := by simp [timedOut, htimeout, hn]
  simp [exec, execWaitrdy, hr, hreached, hp, State.enterWait_eq, State.countBusy, State.poll, State.emit,
    State.abort, State.finish]

/-- Settles O30. -/
theorem waitrdyPollsOnce : Obligations.WaitrdyPollsOnce := by
  rintro s _ rfl
  exact ⟨exec_waitrdy_of_ready, fun hr hbound =>
    ⟨_, exec_waitrdy_of_busy hr hbound, lt_add_of_pos_right _ (freeInterval_pos _), rfl⟩⟩

/-- Settles O31. -/
theorem busyTimeoutEndsTheOperation : Obligations.BusyTimeoutEndsTheOperation := by
  rintro s p n _ hbound hp hr rfl hn
  exact exec_waitrdy_of_timeout hbound hp hr hn

/-! ### The barrier over many steps (41 R126, R127)

Busy polls below the bound leave the machine at its WAITRDY. `runWith_allBusy` says so for any number of them, from
a wait that begins or goes on; a completed barrier is such a run and one poll read high. -/

theorem runWith_append {ps qs : List Pins} {s t : State} (h : runWith ps s = .next t) :
    runWith (ps ++ qs) s = runWith qs t := by
  induction ps generalizing s with
  | nil => exact congrArg (runWith qs) (Host.Outcome.next.inj h)
  | cons p ps ih =>
    simp only [List.cons_append, runWith] at h ⊢
    cases hstep : stepWith p s with
    | next u =>
      rw [hstep] at h
      exact ih h
    | fault r => simp [hstep] at h
    | refused r => simp [hstep] at h

/-- A step at a WAITRDY polls the line that the step samples. -/
theorem stepWith_waitrdy {s : State} {p : Prog} {q : Pins} (hp : s.prog = some p)
    (hw : (s.rom.words p)[s.upc]? = some 0x800) (hrst : q.rst = false) :
    stepWith q s = thenSample (exec .waitrdy { s with pins := q }) :=
  (step_of_prog (s := { s with pins := q }) hrst hp).trans (congrArg thenSample (runUop_of_word hw rfl))

theorem belowBound.mono {c : Config} {m n : Nat} (hn : belowBound c n) (hmn : m ≤ n) : belowBound c m :=
  fun b hb => hmn.trans_lt (hn b hb)

theorem barrierEvents_eq (n : Nat) : barrierEvents n = busyEvents n ++ [.poll true] := by
  induction n with
  | zero => rfl
  | succ n ih => rw [barrierEvents, busyEvents, ih]; rfl

/-- What `n` busy polls below the bound do. -/
def PolledBusy (n : Nat) (s t : State) : Prop :=
  t.busyPolls = s.busyPolls + n ∧ s.now ≤ t.now ∧
    t = { s with
      pcnt := t.pcnt, inWait := t.inWait, now := t.now, tmr := t.tmr, draws := t.draws, pins := t.pins,
      trace := s.trace ++ busyEvents n }

theorem PolledBusy.zero (s : State) : PolledBusy 0 s s :=
  ⟨rfl, le_rfl, by rw [busyEvents, List.append_nil]⟩

/-- One busy poll and the draw of the inputs after it, then `n` more. -/
theorem PolledBusy.succ {n : Nat} {s t : State} {q : Pins}
    (h : PolledBusy n ({ s with pins := q } : State).pollBusy.sample t) : PolledBusy (n + 1) s t := by
  obtain ⟨hcount, hnow, ht⟩ := h
  refine ⟨?_, ?_, ht.trans ?_⟩
  · have hone : ({ s with pins := q } : State).pollBusy.sample.busyPolls = s.busyPolls + 1 := rfl
    omega
  · exact (le_add_of_nonneg_right (freeInterval_pos _).le).trans hnow
  · simp [State.pollBusy, State.sample, busyEvents]

theorem runWith_allBusy {s : State} {p : Prog} {ps : List Pins} (hp : s.prog = some p)
    (hw : (s.rom.words p)[s.upc]? = some 0x800) (hrst : noReset ps) (hbusy : allBusy ps)
    (hbound : belowBound s.cfg (s.busyPolls + ps.length)) :
    ∃ t, runWith ps s = .next t ∧ PolledBusy ps.length s t := by
  induction ps generalizing s with
  | nil => exact ⟨s, rfl, .zero s⟩
  | cons q ps ih =>
    obtain ⟨hq, hrst⟩ := List.forall_mem_cons.1 hrst
    obtain ⟨hr, hbusy⟩ := List.forall_mem_cons.1 hbusy
    have hpoll : exec .waitrdy { s with pins := q } = .next ({ s with pins := q } : State).pollBusy :=
      exec_waitrdy_of_busy hr (hbound.mono (by simp [State.busyPolls]))
    have hmore : belowBound s.cfg (s.busyPolls + 1 + ps.length) := hbound.mono (by rw [List.length_cons]; omega)
    obtain ⟨t, hrun, ht⟩ := ih (s := ({ s with pins := q } : State).pollBusy.sample) hp hw hrst hbusy hmore
    refine ⟨t, ?_, ht.succ⟩
    rw [runWith, stepWith_waitrdy hp hw hq, hpoll]
    exact hrun

/-- The poll that passes the barrier, and the draw of the inputs after it. -/
theorem runWith_ready {s : State} {p : Prog} {q : Pins} (hp : s.prog = some p)
    (hw : (s.rom.words p)[s.upc]? = some 0x800) (hrst : q.rst = false) (hr : q.rdy = true) :
    runWith [q] s = .next ({ s with
      pins := q, pcnt := s.busyPolls, inWait := false, trace := s.trace ++ [.poll true], upc := s.upc + 1
        } : State).sample := by
  rw [runWith, stepWith_waitrdy hp hw hrst, exec_waitrdy_of_ready hr]
  rfl

/-- Settles O32: the busy polls, then the one that passes. -/
theorem completedBarrierTrace : Obligations.CompletedBarrierTrace := by
  intro s p ps q hp hw hentry hrst hbusy hbound hq hr
  have hzero : s.busyPolls = 0 := by simp [State.busyPolls, hentry]
  obtain ⟨t, hrun, hcount, hnow, ht⟩ := runWith_allBusy hp hw hrst hbusy (by rwa [hzero, Nat.zero_add])
  have hpt : t.prog = some p := by rw [ht]; exact hp
  have hwt : (t.rom.words p)[t.upc]? = some 0x800 := by rw [ht]; exact hw
  refine ⟨_, (runWith_append hrun).trans (runWith_ready hpt hwt hq hr), hnow, ?_⟩
  rw [hcount, hzero, Nat.zero_add, barrierEvents_eq, ht]
  simp [State.sample, hentry]

/-- Settles O33: without a bound every number of busy polls is below it. -/
theorem stuckBusyLineHangs : Obligations.StuckBusyLineHangs := by
  intro s p ps hp hw hnone hrst hbusy
  obtain ⟨t, hrun, -, -, ht⟩ := runWith_allBusy hp hw hrst hbusy (by simp [belowBound, hnone])
  exact ⟨t, hrun, ht⟩

end Sys2Proof.Machine

namespace Sys2Proof.Machine

/-! ### The micro-operations that a frame is sent with (40 R104, R105)

CMD sends a command frame and DAT a data frame, so a list of messages is a list of words, one per frame. -/

/-- The micro-operation that sends a frame. -/
def frameInstr : Frame → Instr
  | (.cmd, c) => .cmd c
  | (.data, d) => .dat d

@[simp] theorem decodeUop_uopOfFrame (f : Frame) : decodeUop (uopOfFrame f) = .ok (frameInstr f) := by
  obtain ⟨m, v⟩ := f
  cases m with
  | cmd => exact decodeUop_romCmd v
  | data => exact decodeUop_romDat v

theorem exec_frameInstr_of_drv {s : State} (hdrv : s.drv = true) (f : Frame) :
    exec (frameInstr f) s = .next (s.sendFrame f).advance := by
  obtain ⟨m, v⟩ := f
  cases m with
  | cmd => exact ifDriven_of_drv _ hdrv
  | data => exact ifDriven_of_drv _ hdrv

/-- `WRITE c, ds` sends the frames of the message (30 R84). -/
theorem writeExpansion_eq (b : Byte) (ds : List Byte) :
    writeExpansion b ds = (messageFrames b ds).map frameInstr := by
  simp [writeExpansion, messageFrames, frameInstr]

theorem romEntry_eq (e : Byte × List Byte) : romEntry e = (messageFrames e.1 e.2).map uopOfFrame := by
  simp [romEntry, messageFrames, uopOfFrame]

/-- The words of the init table are those of its frames. -/
theorem romTable_initTable (c : Config) : romTable c.initTable = (tableFrames c).map uopOfFrame := by
  rw [romTable, funext romEntry_eq, tableFrames, List.map_flatMap]

/-! ### The micro-programs of every configuration (42 R142, R149) -/

theorem romTable_map_decodeUop (c : Config) :
    (romTable c.initTable).map decodeUop =
      (c.initTable.flatMap fun e => writeExpansion e.1 e.2).map .ok := by
  have hword : decodeUop ∘ uopOfFrame = .ok ∘ frameInstr := funext decodeUop_uopOfFrame
  rw [romTable_initTable, List.map_map, hword, ← List.map_map, tableFrames, List.map_flatMap]
  simp only [writeExpansion_eq]

theorem romTable_length (t : List (Byte × List Byte)) :
    (romTable t).length = (t.map fun e => 1 + e.2.length).sum := by
  simp [romTable, romEntry, List.length_flatMap, Nat.add_comm]

/-- Settles O10: the fixed words by evaluation, the words of the table frame by frame. -/
theorem initProgramReplaysTheTable : Obligations.InitProgramReplaysTheTable := by
  refine fun c => ⟨?_, ?_⟩
  · simp only [romInit, List.map_append, romTable_map_decodeUop, List.append_assoc]
    rfl
  · simp only [romInit, List.length_append, romTable_length, List.length_cons, List.length_nil]
    omega

/-- A word that may stand before the END of a well-formed micro-program, whatever word is before it (42 R149). -/
def PlainWord (w : UopWord) : Prop := isUop w = true ∧ w ≠ 0x000 ∧ w ≠ 0xC00 ∧ isXferWord w = false

theorem decodeUop_of_isXferWord {w : UopWord} (h : isXferWord w = true) : decodeUop w = .ok (.xfer (uopImm w)) := by
  have hkind : uopKind w = 0x3 := by simpa [isXferWord] using h
  simp [decodeUop, hkind]

/-- What stands in the bodies of the three micro-programs is plain: no XFER, no END and no `PHASE Idle`. -/
theorem BodyWord.plainWord {p : Prog} {w : UopWord} (hw : BodyWord p w) : PlainWord w := by
  obtain ⟨i, hi, hbody⟩ := hw
  refine ⟨?_, ?_, ?_, ?_⟩
  · unfold isUop
    rw [hi]
    cases hbody
    all_goals rfl
  · rintro rfl
    obtain rfl : .endOp = i := Except.ok.inj hi
    cases hbody
  · rintro rfl
    obtain rfl : .phase 0 = i := Except.ok.inj hi
    generalize hcode : (0 : Nibble) = n at hbody
    cases hbody with
    | phase q hq =>
      cases q with
      | idle => exact hq rfl
      | _ => cases hcode
  · by_contra hxfer
    rw [decodeUop_of_isXferWord (by simpa using hxfer)] at hi
    obtain rfl := Except.ok.inj hi
    cases hbody

/-- Plain words with an END after them, by induction on these words. -/
theorem wellFormedFrom_of_plainWords {body : List UopWord} (hbody : ∀ w ∈ body, PlainWord w) (prev : Bool) :
    wellFormedFrom prev (body ++ [0x000]) = true := by
  induction body generalizing prev with
  | nil => rfl
  | cons w body ih =>
    obtain ⟨⟨huop, hend, hidle, hxfer⟩, hbody⟩ := List.forall_mem_cons.1 hbody
    have hrest := ih hbody (isSetWord w)
    obtain ⟨v, vs, hvs⟩ := List.exists_cons_of_ne_nil (l := body ++ [0x000]) (by simp)
    rw [hvs] at hrest
    rw [List.cons_append, hvs, wellFormedFrom]
    simp only [huop, bne_iff_ne.2 hend, bne_iff_ne.2 hidle, hxfer, hrest, Bool.not_false, Bool.true_or, Bool.and_self]

theorem wellFormedProgram_words (c : Config) (p : Prog) : wellFormedProgram ((Rom.ofConfig c).words p) = true := by
  obtain ⟨body, hwords, hbody⟩ := words_body c p
  rw [hwords]
  exact wellFormedFrom_of_plainWords (fun w hw => (hbody w hw).plainWord) false

/-- Settles O12. -/
theorem microProgramsAreWellFormed : Obligations.MicroProgramsAreWellFormed :=
  fun c => ⟨wellFormedProgram_words c .init, wellFormedProgram_words c .display, wellFormedProgram_words c .sleep⟩

/-! ### PHASE, and the admission of INITIALIZE (42 R140, R141, R148) -/

theorem exec_phase_of_code (q : Phase) (s : State) :
    exec (.phase (phaseCode q)) s = .next ({ s with phase := q } : State).advance := by
  simp [exec, execPhase]

/-- Settles O35. -/
theorem phaseEffect : Obligations.PhaseEffect := by
  obtain ⟨-, -, hfault⟩ := illegalWordsStopTheMachine
  refine ⟨fun c p => ?_, fun s => ⟨fun q => exec_phase_of_code q s, hfault s⟩⟩
  have hcode : (p.setWidth 8).toNat = p.toNat := BitVec.toNat_setWidth_of_le (by decide)
  rw [encode, uopWord_eq_ofNat, hcode]
  rfl

theorem exec_initializeOp_of_idle {s : State} (hidle : s.phase = .idle) :
    exec .initializeOp s = .next s.beginInit := ifTaken_of_idle _ hidle

/-- Settles O43: the bus is configured, then the micro-program is begun. -/
theorem initializeStartsTheSequence : Obligations.InitializeStartsTheSequence := by
  refine fun s hidle hok => ⟨?_, rfl⟩
  rw [exec_initializeOp_of_idle hidle, State.beginInit, if_pos hok]
  simp [State.configureBus, State.setCs, State.emit, State.beginProgram, Prog.firstPhase]

/-- Settles O44: the operation ends before a pin is written. -/
theorem setupFailureIsPrecise : Obligations.SetupFailureIsPrecise := by
  intro s hidle hfail
  rw [exec_initializeOp_of_idle hidle, State.beginInit, if_neg (by simp [hfail])]
  rfl

/-! ### Runs, put together from runs

`Leads ps s P`: the run on the inputs `ps` answers a next state, of which `P` holds. -/

def Leads (ps : List Pins) (s : State) (P : State → Prop) : Prop := ∃ t, runWith ps s = .next t ∧ P t

theorem Leads.nil {s : State} {P : State → Prop} (hs : P s) : Leads [] s P := ⟨s, rfl, hs⟩

theorem Leads.append {ps qs : List Pins} {s : State} {P Q : State → Prop} (h : Leads ps s P)
    (hnext : ∀ t, P t → Leads qs t Q) : Leads (ps ++ qs) s Q := by
  obtain ⟨t, hrun, ht⟩ := h
  obtain ⟨u, hrun', hu⟩ := hnext t ht
  exact ⟨u, (runWith_append hrun).trans hrun', hu⟩

theorem Leads.cons {q : Pins} {qs : List Pins} {s : State} {P Q : State → Prop} (h : Leads [q] s P)
    (hnext : ∀ t, P t → Leads qs t Q) : Leads (q :: qs) s Q := h.append hnext

theorem Leads.step {q : Pins} {s t : State} {P : State → Prop} (hstep : stepWith q s = .next t) (ht : P t) :
    Leads [q] s P := ⟨t, by simp [runWith, hstep], ht⟩

/-- The words of a micro-program from `UPC` on. -/
def State.ahead (p : Prog) (s : State) : List UopWord := (s.rom.words p).drop s.upc

theorem State.getElem?_of_ahead {p : Prog} {s : State} {w : UopWord} {ws : List UopWord} (h : s.ahead p = w :: ws) :
    (s.rom.words p)[s.upc]? = some w := by
  rw [← List.head?_drop]
  exact congrArg List.head? h

theorem State.ahead_advance {p : Prog} {s : State} {w : UopWord} {ws : List UopWord} (h : s.ahead p = w :: ws) :
    s.advance.ahead p = ws := List.tail_drop.symm.trans (congrArg List.tail h)

/-- One step of a running micro-program: its next word, then the draw of the inputs. -/
theorem Leads.word {p : Prog} {s t : State} {q : Pins} {w : UopWord} {ws : List UopWord} {i : Instr}
    {P : State → Prop} (hp : s.prog = some p) (hahead : s.ahead p = w :: ws) (hi : decodeUop w = .ok i)
    (hq : q.rst = false) (hexec : exec i { s with pins := q } = .next t) (ht : P t.sample) : Leads [q] s P := by
  refine .step ?_ ht
  have hstep := step_of_prog (s := { s with pins := q }) hq hp
  rw [runUop_of_word (State.getElem?_of_ahead (s := { s with pins := q }) hahead) hi, hexec] at hstep
  exact hstep

/-- A request on the port of an idle block: the host operation, then the draw of the inputs. -/
theorem Leads.request {s t : State} {r : Pins} {P : State → Prop} (hp : s.prog = none) (hrst : r.rst = false)
    (hv : r.reqValid = true) (hexec : exec (decodeHostop r.reqOp) { s with pins := r } = .next t)
    (ht : P t.sample) : Leads [r] s P := by
  refine .step ?_ ht
  have hstep := step_of_request (s := { s with pins := r }) hrst hp hv
  rw [hexec] at hstep
  exact hstep

/-! ### A run of the words of frames -/

/-- Sending frames does not read `UPC` or the inputs. -/
theorem State.sendFrames_setPlace (fs : List Frame) (s : State) (u : Nat) (q : Pins) (d : Nat) :
    State.sendFrames fs { s with upc := u, pins := q, draws := d } =
      { State.sendFrames fs s with upc := u, pins := q, draws := d } := by
  induction fs generalizing s with
  | nil => rfl
  | cons f fs ih => exact ih (s.sendFrame f)

theorem State.sendFrames_advance_sample (fs : List Frame) (s : State) :
    State.sendFrames fs s.advance.sample =
      { State.sendFrames fs s with upc := s.upc + 1, pins := freePins s.draws, draws := s.draws + 1 } :=
  State.sendFrames_setPlace fs s _ _ _

theorem State.sendFrames_cs_high {s : State} (hcs : s.cs = some .high) (fs : List Frame) :
    (State.sendFrames fs s).cs = some .high := by
  cases fs with
  | nil => exact hcs
  | cons f fs => exact (State.sendFrames_lines (List.cons_ne_nil f fs) s).1

/-- The word of a frame, on a driven bus, and the draw of the inputs after it. -/
theorem Leads.frame {p : Prog} {s : State} {f : Frame} {q : Pins} {ws : List UopWord} (hp : s.prog = some p)
    (hahead : s.ahead p = uopOfFrame f :: ws) (hdrv : s.drv = true) (hq : q.rst = false) :
    Leads [q] s (· = (s.sendFrame f).advance.sample) := by
  refine .word hp hahead (decodeUop_uopOfFrame f) hq (exec_frameInstr_of_drv (s := { s with pins := q }) hdrv f) ?_
  rw [State.sendFrame_eq, State.sendFrame_eq]
  rfl

/-- The words of frames, on a driven bus: the frames are sent, and `UPC` moves on once per frame. -/
theorem Leads.frames {p : Prog} {s : State} {fs : List Frame} {ps : List Pins} {ws : List UopWord}
    (hp : s.prog = some p) (hahead : s.ahead p = fs.map uopOfFrame ++ ws) (hdrv : s.drv = true) (hrst : noReset ps)
    (hlen : ps.length = fs.length) :
    Leads ps s fun t =>
      t = { State.sendFrames fs s with upc := s.upc + fs.length, pins := t.pins, draws := t.draws } := by
  induction fs generalizing s ps with
  | nil =>
    obtain rfl := List.eq_nil_of_length_eq_zero hlen
    exact .nil rfl
  | cons f fs ih =>
    obtain ⟨q, qs, rfl⟩ := List.exists_cons_of_length_eq_add_one hlen
    obtain ⟨hq, hrst⟩ := List.forall_mem_cons.1 hrst
    rw [List.map_cons, List.cons_append] at hahead
    refine (Leads.frame hp hahead hdrv hq).cons ?_
    rintro _ rfl
    have hnext : (s.sendFrame f).ahead p = uopOfFrame f :: (fs.map uopOfFrame ++ ws) := by
      rw [State.ahead, State.sendFrame_rom, State.sendFrame_upc]
      exact hahead
    obtain ⟨t, hrun, ht⟩ := ih (s := (s.sendFrame f).advance.sample) (by simpa using hp)
      (State.ahead_advance hnext) (by simpa using hdrv) hrst (Nat.succ.inj hlen)
    have hupc : (s.sendFrame f).advance.sample.upc + fs.length = s.upc + (f :: fs).length := by
      simp [Nat.add_assoc, Nat.add_comm 1]
    exact ⟨t, hrun, by rw [ht, State.sendFrames_advance_sample, hupc, State.sendFrames_cons]⟩

/-! ### INITIALIZE from the request to its END (42 R143) -/

/-- INITIALIZE runs in the configuration `c`, on a driven bus with select high: `ws` are the words still to run, `l`
is the reset line, `tr` the trace. -/
structure Initializing (c : Config) (ws : List UopWord) (l : Option Level) (tr : List Event) (s : State) : Prop where
  cfg : s.cfg = c
  prog : s.prog = some .init
  ahead : s.ahead .init = ws
  drv : s.drv = true
  cs : s.cs = some .high
  inWait : s.inWait = false
  rst : s.rst = l
  trace : s.trace = tr

/-- What a completed INITIALIZE leaves (42 R147), with the reset line at `l`. -/
def Initialized (l : Option Level) (tr : List Event) (s : State) : Prop :=
  s.trace = tr ∧ s.drv = true ∧ s.cs = some .high ∧ s.rst = l ∧ s.mode = .ready ∧ s.phase = .idle ∧
    s.status = .ok ∧ s.prog = none ∧ s.upc = 0

/-- The request, with `cfg_ok = 1`: the bus is configured and all of `ROM(Init)` is still to run. -/
theorem leads_initializing {s : State} {r : Pins} (hp : s.prog = none) (hidle : s.phase = .idle)
    (hrom : s.rom = Rom.ofConfig s.cfg) (hrst : r.rst = false) (hv : r.reqValid = true) (hop : r.reqOp = 0b01)
    (hok : r.cfgOk = true) :
    Leads [r] s (Initializing s.cfg (romInit s.cfg) s.rst (s.trace ++ [.cfg, .csW .high])) := by
  obtain ⟨hexec, -⟩ := initializeStartsTheSequence { s with pins := r } hidle hok
  have hdecode : decodeHostop r.reqOp = .initializeOp := by rw [hop]; rfl
  rw [← hdecode] at hexec
  exact .request hp hrst hv hexec ⟨rfl, rfl, congrArg Rom.init hrom, rfl, rfl, rfl, rfl, rfl⟩

section
variable {c : Config} {w : UopWord} {ws : List UopWord} {l : Option Level} {tr : List Event} {s : State} {q : Pins}

theorem Initializing.phase {ph : Phase} (hs : Initializing c (w :: ws) l tr s)
    (hw : decodeUop w = .ok (.phase (phaseCode ph))) (hq : q.rst = false) : Leads [q] s (Initializing c ws l tr) :=
  .word hs.prog hs.ahead hw hq (exec_phase_of_code ph _)
    ⟨hs.cfg, hs.prog, State.ahead_advance hs.ahead, hs.drv, hs.cs, hs.inWait, hs.rst, hs.trace⟩

theorem Initializing.hardreset (hs : Initializing c (0xA00 :: ws) l tr s) (hholds : holdsOk c = true)
    (hq : q.rst = false) : Leads [q] s (Initializing c ws (some .high) (tr ++ pulseEvents c)) := by
  have hexec := exec_hardreset_of_drv (s := { s with pins := q }) hs.drv (by rw [hs.cfg]; exact hholds)
  refine .word hs.prog hs.ahead rfl hq hexec ?_
  rw [State.resetPulse_eq]
  exact ⟨hs.cfg, hs.prog, State.ahead_advance hs.ahead, hs.drv, hs.cs, hs.inWait, rfl, by simp [hs.cfg, hs.trace]⟩

theorem Initializing.barrier {busy : List Pins} (hs : Initializing c (0x800 :: ws) l tr s) (hrst : noReset busy)
    (hbusy : allBusy busy) (hbound : belowBound c busy.length) (hq : q.rst = false) (hrdy : q.rdy = true) :
    Leads (busy ++ [q]) s (Initializing c ws l (tr ++ barrierEvents busy.length)) := by
  obtain ⟨t, hrun, -, ht⟩ := completedBarrierTrace s .init busy q hs.prog (State.getElem?_of_ahead hs.ahead)
    hs.inWait hrst hbusy (by rw [hs.cfg]; exact hbound) hq hrdy
  refine ⟨t, hrun, ?_⟩
  rw [ht, hs.trace]
  exact ⟨hs.cfg, hs.prog, State.ahead_advance hs.ahead, hs.drv, hs.cs, hs.inWait, hs.rst, rfl⟩

theorem Initializing.frames {fs : List Frame} {ps : List Pins}
    (hs : Initializing c (fs.map uopOfFrame ++ ws) l tr s) (hrst : noReset ps) (hlen : ps.length = fs.length) :
    Leads ps s (Initializing c ws l (tr ++ framesEvents fs)) := by
  obtain ⟨t, hrun, ht⟩ := Leads.frames hs.prog hs.ahead hs.drv hrst hlen
  refine ⟨t, hrun, ?_⟩
  have hcs := State.sendFrames_cs_high hs.cs fs
  have htrace := State.sendFrames_trace fs s
  have hahead : (s.rom.words .init).drop (s.upc + fs.length) = ws := by
    rw [← List.drop_drop]
    exact (congrArg (List.drop fs.length) hs.ahead).trans (List.drop_left' (List.length_map _))
  rw [State.sendFrames_frame, hcs, htrace, hs.trace] at ht
  rw [ht]
  exact ⟨hs.cfg, hs.prog, hahead, hs.drv, rfl, hs.inWait, hs.rst, rfl⟩

theorem Initializing.endOp (hs : Initializing c (0x000 :: ws) l tr s) (hq : q.rst = false) :
    Leads [q] s (Initialized l (tr ++ [.done .initializeOp .ok])) :=
  .word hs.prog hs.ahead rfl hq (exec_endOp_of_prog hs.prog)
    ⟨congrArg (· ++ _) hs.trace, hs.drv, hs.cs, hs.rst, rfl, rfl, rfl, rfl, rfl⟩

/-- The three words before the barrier. -/
theorem Initializing.pulse {a : List Pins} (hs : Initializing c (0xC05 :: 0xA00 :: 0xC06 :: ws) l tr s)
    (hholds : holdsOk c = true) (hrst : noReset a) (hlen : a.length = 3) :
    Leads a s (Initializing c ws (some .high) (tr ++ pulseEvents c)) := by
  obtain ⟨q1, q2, q3, rfl⟩ := List.length_eq_three.1 hlen
  simp only [noReset, List.forall_mem_cons] at hrst
  obtain ⟨h1, h2, h3, -⟩ := hrst
  exact (hs.phase (ph := .resetting) rfl h1).cons fun _ hs => (hs.hardreset hholds h2).cons fun _ hs =>
    hs.phase (ph := .initWait) rfl h3

/-- The words after the barrier. -/
theorem Initializing.replay {fs : List Frame} {b : List Pins}
    (hs : Initializing c (0xC07 :: (fs.map uopOfFrame ++ [0x000])) l tr s) (hrst : noReset b)
    (hlen : b.length = fs.length + 2) :
    Leads b s (Initialized l (tr ++ framesEvents fs ++ [.done .initializeOp .ok])) := by
  obtain ⟨q, b, rfl⟩ := List.exists_cons_of_length_eq_add_one hlen
  have hne : b ≠ [] := List.ne_nil_of_length_eq_add_one (Nat.succ.inj hlen)
  obtain ⟨qs, e, rfl⟩ := (List.eq_nil_or_concat' b).resolve_left hne
  simp only [noReset, List.forall_mem_cons, List.forall_mem_append] at hrst
  obtain ⟨hq, hqs, he, -⟩ := hrst
  have hlen : qs.length = fs.length := by simpa using hlen
  exact (hs.phase (ph := .initReplay) rfl hq).cons fun _ hs => (hs.frames hqs hlen).append fun _ hs => hs.endOp he

end

/-! ### The frames of a whole INITIALIZE -/

theorem framesFrom_of_no_byte {es : List Event} (hes : ∀ v, .byte v ∉ es) (d : Option DcMode) :
    framesFrom d es = [] := by
  induction es generalizing d with
  | nil => rfl
  | cons e es ih =>
    have htail : ∀ v, .byte v ∉ es := fun v hv => hes v (List.mem_cons_of_mem e hv)
    cases e with
    | byte v => exact absurd List.mem_cons_self (hes v)
    | _ =>
      cases d
      all_goals exact ih htail _

theorem byte_not_mem_barrierEvents (n : Nat) (v : Byte) : .byte v ∉ barrierEvents n := by
  induction n with
  | zero => simp [barrierEvents]
  | succ n ih => simp [barrierEvents, ih]

/-- The events of a whole INITIALIZE with `n` busy polls at the barrier (42 R143). -/
def initializeEvents (c : Config) (n : Nat) : List Event :=
  [.cfg, .csW .high] ++ pulseEvents c ++ barrierEvents n ++ framesEvents (tableFrames c) ++ [.done .initializeOp .ok]

/-- Nothing before the table and nothing after it is a frame. -/
theorem framesFrom_initializeEvents (c : Config) (n : Nat) (d : Option DcMode) :
    framesFrom d (initializeEvents c n) = tableFrames c := by
  have hbefore (d : Option DcMode) : framesFrom d ([.cfg, .csW .high] ++ pulseEvents c ++ barrierEvents n) = [] :=
    framesFrom_of_no_byte (by simp [pulseEvents, byte_not_mem_barrierEvents]) d
  have hafter (d : Option DcMode) : framesFrom d [.done .initializeOp .ok] = [] :=
    framesFrom_of_no_byte (by simp) d
  rw [initializeEvents, framesFrom_append, framesFrom_append, hbefore, hafter, framesFrom_framesEvents,
    List.nil_append, List.append_nil]

/-- `ROM(Init)` with the words of the table as those of its frames. -/
theorem romInit_eq (c : Config) :
    romInit c = 0xC05 :: 0xA00 :: 0xC06 :: 0x800 :: 0xC07 :: ((tableFrames c).map uopOfFrame ++ [0x000]) := by
  rw [romInit, romTable_initTable]
  rfl

/-- Settles O49: the request, the reset pulse, the barrier, and the replay of the table up to END. -/
theorem initializeReplaysTheTableExactly : Obligations.InitializeReplaysTheTableExactly := by
  intro s r q a busy b hp hidle hrom h1 h2 h3 hr hv hop hok ha halen hbusyrst hbusy hbound hq hrdy hb hblen
  have hholds : holdsOk s.cfg = true := by simp [holdsOk, h1, h2, h3]
  have hrequest := leads_initializing hp hidle hrom hr hv hop hok
  rw [romInit_eq] at hrequest
  obtain ⟨t, hrun, htrace, hdrv, hcs, hrst, hend⟩ :=
    hrequest.cons fun _ hs => (hs.pulse hholds ha halen).append fun _ hs =>
      (hs.barrier hbusyrst hbusy hbound hq hrdy).append fun _ hs => hs.replay hb hblen
  have hevents : t.trace = s.trace ++ initializeEvents s.cfg busy.length := by
    rw [htrace]
    simp [initializeEvents]
  refine ⟨t, by rwa [List.append_cons], ?_, ?_, hdrv, hcs, hrst, hend⟩
  · rw [hevents, initializeEvents, pulseEvents, h1, h2, h3]
    rfl
  · rw [hevents, frames, framesFrom_append, framesFrom_initializeEvents, frames]

end Sys2Proof.Machine

namespace Sys2Proof.Machine

/-! ### The pixel converter (43 R161 to R163, R165) -/

theorem packPixels_firstPixel_secondPixel (b : Byte) : packPixels (firstPixel b) (secondPixel b) = b :=
  BitVec.extractLsb'_append_extractLsb'

/-- `CONV_Lut3` looks each pixel up by itself, and its warnings are those of the first pixel, then of the second. -/
theorem conv_lut3_packPixels (p q : Nibble) :
    conv .lut3 (packPixels p q) = (packPixels (lut p) (lut q), lutWarning p ++ lutWarning q) := by
  simp only [conv, convLut3, firstPixel_packPixels, secondPixel_packPixels]

/-- The clamp to black, over the nine codes above 6. -/
theorem lut_eq_zero_of_gt_six : ∀ p : Nibble, 6 < p.toNat → lut p = 0x0 := by decide

/-- On the usable colours the table is the native code; CLEAN is left out, as its native nibble is a parameter. -/
theorem lut_inputCode (c : Config) {a : Colour} (ha : a ≠ .clean) : lut (inputCode a) = nativeNibble c a := by
  cases a with
  | clean => exact absurd rfl ha
  | _ => rfl

/-- Settles O36: the two variants on every byte, the packing of pixels, the table, and an all-white byte. -/
theorem converterMapsClampsAndWarns : Obligations.ConverterMapsClampsAndWarns :=
  ⟨fun _ => rfl, conv_lut3_packPixels, packPixels_firstPixel_secondPixel, ⟨rfl, lut_eq_zero_of_gt_six⟩,
    fun c _ => lut_inputCode c, conv_lut3_packPixels 1 1, rfl⟩

end Sys2Proof.Machine

namespace Sys2Proof.Machine

/-! ### The words of ROM(Display), and a STREAM that sends nothing (44 R182, R184) -/

/-- Settles O11: the CMDs and DATs carry the configuration's bytes, the other words are fixed. -/
theorem displayProgramContents : Obligations.DisplayProgramContents := by
  refine fun c => ⟨?_, rfl⟩
  simp only [romDisplay, List.map_cons, decodeUop_romCmd, decodeUop_romDat]
  rfl

/-- Settles O38: the requirement on `PROG` is looked at first, then the bytes left. -/
theorem streamWithoutBytesMovesOn : Obligations.StreamWithoutBytesMovesOn := by
  refine fun s => ⟨fun hp hb => ?_, fun hp => if_pos hp⟩
  simp [exec, execStream, hp, hb, State.advance]

/-! ### Traces without their yields (44 R186) -/

@[simp] theorem withoutYields_append (t u : List Event) :
    withoutYields (t ++ u) = withoutYields t ++ withoutYields u := List.filter_append _ _

theorem withoutYields_flatMap {α : Type} (as : List α) (f : α → List Event) :
    withoutYields (as.flatMap f) = as.flatMap fun a => withoutYields (f a) := List.filter_flatMap

/-- A yield is no frame and does not write the discriminator. -/
theorem framesFrom_withoutYields (t : List Event) (d : Option DcMode) :
    framesFrom d (withoutYields t) = framesFrom d t := by
  induction t generalizing d with
  | nil => rfl
  | cons e t ih =>
    cases e with
    | yield => exact (ih d).trans (by cases d <;> rfl)
    | _ =>
      cases d
      all_goals simp [withoutYields, Event.isYield, framesFrom, ← ih]

theorem withoutYields_ite_yield (p : Prop) [Decidable p] : withoutYields (if p then [.yield] else []) = [] := by
  split
  · rfl
  · rfl

/-- A STREAM step that sends a byte, as far as the chunks leave no mark: no `CHUNK_ROWS` and no `CCNT` on the right. -/
theorem State.streamStep_unchunked (s : State) :
    withoutYields s.streamByte.endChunk.endStream.trace = withoutYields s.streamByte.trace ∧
    s.streamByte.endChunk.endStream.bcnt = s.bcnt + 1 ∧
    s.streamByte.endChunk.endStream.upc = (if s.bcnt + 1 = frameBytes s.cfg then s.upc + 1 else s.upc) ∧
    s.streamByte.endChunk.endStream.warnCnt = s.streamByte.warnCnt := by
  rw [State.endStream_eq, State.endChunk_eq]
  refine ⟨?_, ?_, ?_, rfl⟩
  · rw [withoutYields_append, withoutYields_ite_yield, List.append_nil]
  · rw [State.streamByte_eq]
  · rw [State.streamByte_eq]

theorem withoutYields_streamEvents (c : Config) (fb : Memory) (r : Nat) :
    withoutYields (streamEvents { c with chunkRows := r } fb) = withoutYields (streamEvents c fb) := by
  simp only [streamEvents, withoutYields_flatMap, streamByteEvents, withoutYields_append, withoutYields_ite_yield]
  rfl

/-- Settles O39: either both steps send the byte or both only move on, and of the events of a DISPLAYFRAME only those
of the stream have to do with chunks. -/
theorem chunkSizeIsUnobservable : Obligations.ChunkSizeIsUnobservable := by
  refine ⟨fun s t u r n ht hu => ?_, fun c fb r n1 n2 n3 => ?_⟩
  · obtain ⟨-, ⟨hend, rfl⟩ | ⟨hleft, -, rfl⟩⟩ := execStream_next ht
    all_goals obtain ⟨-, ⟨hend', rfl⟩ | ⟨hleft', -, rfl⟩⟩ := execStream_next hu
    · exact ⟨rfl, rfl, rfl, rfl, rfl⟩
    · exact absurd hend hleft'.not_ge
    · exact absurd hend' hleft.not_ge
    · obtain ⟨htrace, hbcnt, hupc, hwarn⟩ := s.streamStep_unchunked
      obtain ⟨htrace', hbcnt', hupc', hwarn'⟩ :=
        ({ s with cfg := { s.cfg with chunkRows := r }, ccnt := n } : State).streamStep_unchunked
      have hsame := htrace.trans htrace'.symm
      refine ⟨hsame, ?_, hbcnt.trans hbcnt'.symm, hupc.trans hupc'.symm, hwarn.trans hwarn'.symm⟩
      rw [frames, frames, ← framesFrom_withoutYields, hsame, framesFrom_withoutYields]
  · simp only [displayEvents, withoutYields_append, withoutYields_streamEvents]

/-! ### The yields of the stream (44 R185) -/

@[simp] theorem yieldCount_append (t u : List Event) : yieldCount (t ++ u) = yieldCount t + yieldCount u := by
  simp [yieldCount]

theorem yieldCount_streamByteEvents (c : Config) (fb : Memory) (a : Nat) :
    yieldCount (streamByteEvents c fb a) = if chunkBytes c ∣ a + 1 ∨ a + 1 = frameBytes c then 1 else 0 := by
  have hwarns (ws : List Nibble) : yieldCount (ws.map .warn) = 0 := by
    simp [yieldCount, Event.isYield]
  have hframe (f : Frame) : yieldCount (frameEvents f) = 0 := rfl
  simp only [streamByteEvents, yieldCount_append, hwarns, hframe, Nat.dvd_iff_mod_eq_zero]
  split
  · rfl
  · rfl

/-- Before the last byte of the frame there is one yield per full chunk. -/
theorem yieldCount_streamed {c : Config} (fb : Memory) {n : Nat} (hn : n < frameBytes c) :
    yieldCount ((List.range n).flatMap (streamByteEvents c fb)) = n / chunkBytes c := by
  induction n with
  | zero => simp [yieldCount]
  | succ n ih =>
    rw [List.range_succ, List.flatMap_append, yieldCount_append, ih (by omega), List.flatMap_singleton,
      yieldCount_streamByteEvents, Nat.succ_div]
    simp [hn.ne]

theorem yieldCount_streamEvents {c : Config} (fb : Memory) (hpos : 0 < frameBytes c) :
    yieldCount (streamEvents c fb) = (frameBytes c - 1) / chunkBytes c + 1 := by
  obtain ⟨n, hn⟩ := Nat.exists_eq_add_of_lt hpos
  rw [Nat.zero_add] at hn
  rw [streamEvents, hn, List.range_succ, List.flatMap_append, yieldCount_append, yieldCount_streamed fb (by omega),
    List.flatMap_singleton, yieldCount_streamByteEvents, if_pos (.inr hn.symm), Nat.add_sub_cancel]

/-- `N_CHUNKS` counts the full chunks before the last byte of the frame, and one more (00 R8). -/
theorem nChunks_eq {c : Config} (heven : c.width % 2 = 0) (hpos : 0 < frameBytes c) (hrows : 1 ≤ c.chunkRows) :
    nChunks c = (frameBytes c - 1) / chunkBytes c + 1 := by
  rw [frameBytes_eq_height_mul_rowBytes heven] at hpos ⊢
  have hheight : 0 < c.height := Nat.pos_of_mul_pos_right hpos
  have hrow : (c.height * rowBytes c - 1) / rowBytes c = c.height - 1 := by
    have := Nat.mul_sub_div 0 (rowBytes c) c.height (by rwa [Nat.mul_comm])
    simpa [Nat.mul_comm] using this
  rw [chunkBytes, Nat.mul_comm c.chunkRows, ← Nat.div_div_eq_div_mul, hrow, nChunks, ← Nat.add_div_right _ hrows]
  congr 1
  omega

end Sys2Proof.Machine

namespace Sys2Proof.Machine

/-! ### Runs of a number of steps, on any inputs

`LeadsAfter n s P`: `n` steps on any inputs without block reset answer a next state, of which `P` holds. -/

def LeadsAfter (n : Nat) (s : State) (P : State → Prop) : Prop :=
  ∀ ps : List Pins, noReset ps → ps.length = n → Leads ps s P

theorem LeadsAfter.one {s : State} {P : State → Prop} (h : ∀ q : Pins, q.rst = false → Leads [q] s P) :
    LeadsAfter 1 s P := by
  intro ps hrst hlen
  obtain ⟨q, rfl⟩ := List.length_eq_one_iff.1 hlen
  exact h q (hrst q List.mem_cons_self)

theorem LeadsAfter.append {m n : Nat} {s : State} {P Q : State → Prop} (h : LeadsAfter m s P)
    (hnext : ∀ t, P t → LeadsAfter n t Q) : LeadsAfter (m + n) s Q := by
  intro ps hrst hlen
  obtain ⟨hfst, hsnd⟩ := List.forall_mem_append.1 ((List.take_append_drop m ps).symm ▸ hrst)
  rw [← List.take_append_drop m ps]
  exact (h _ hfst (by rw [List.length_take]; omega)).append fun t ht =>
    hnext t ht _ hsnd (by rw [List.length_drop]; omega)

theorem LeadsAfter.mono {n : Nat} {s : State} {P Q : State → Prop} (h : LeadsAfter n s P) (hPQ : ∀ t, P t → Q t) :
    LeadsAfter n s Q := by
  intro ps hrst hlen
  obtain ⟨t, hrun, ht⟩ := h ps hrst hlen
  exact ⟨t, hrun, hPQ t ht⟩

/-! ### The whole stream (44 R184 to R186) -/

/-- A count that wraps at `n` is a remainder; for `n = 0` it never wraps. -/
theorem succ_mod_eq_ite (a n : Nat) : (a + 1) % n = if a % n + 1 = n then 0 else a % n + 1 := by
  rcases n.eq_zero_or_pos with rfl | hn
  · simp
  · have hlt := Nat.mod_lt a hn
    rw [← Nat.mod_add_mod]
    split
    · rename_i h
      rw [h, Nat.mod_self]
    · exact Nat.mod_eq_of_lt (by omega)

theorem succ_mod_eq_zero_iff (a n : Nat) : (a + 1) % n = 0 ↔ a % n + 1 = n := by
  simp [succ_mod_eq_ite]

/-- The state `t` comes from `s` by the bytes of the stream from `BCNT` up to `b`. `CCNT` counts within the chunk, and
the end of the frame clears it and moves `UPC` on. -/
def Streamed (b : Nat) (s t : State) : Prop :=
  t = { s with
    cs := some .high, dc := some .data, ser := t.ser, dcFresh := false, warnCnt := t.warnCnt
    bcnt := b
    ccnt := if b = frameBytes s.cfg then 0 else b % chunkBytes s.cfg
    upc := if b = frameBytes s.cfg then s.upc + 1 else s.upc
    now := t.now, tmr := t.tmr, draws := t.draws, pins := t.pins
    trace := s.trace ++ (List.range' s.bcnt (b - s.bcnt)).flatMap (streamByteEvents s.cfg s.fb) }

/-- The step that sends the next byte, with `CCNT` the remainder of `BCNT` before it and after it. -/
theorem exec_stream_streamed {s : State} (hp : s.prog = some .display) (hdrv : s.drv = true)
    (hccnt : s.ccnt = s.bcnt % chunkBytes s.cfg) (hb : s.bcnt < frameBytes s.cfg) :
    ∃ t, exec .stream s = .next t ∧ Streamed (s.bcnt + 1) s t := by
  have hcount : (if s.ccnt + 1 = chunkBytes s.cfg ∨ s.bcnt + 1 = frameBytes s.cfg then 0 else s.ccnt + 1) =
      if s.bcnt + 1 = frameBytes s.cfg then 0 else (s.bcnt + 1) % chunkBytes s.cfg := by
    rw [succ_mod_eq_ite, ← hccnt, ite_or]
    split_ifs
    all_goals rfl
  have hevents : (streamConv s).2.map .warn ++ frameEvents (.data, (streamConv s).1) ++
      (if s.ccnt + 1 = chunkBytes s.cfg ∨ s.bcnt + 1 = frameBytes s.cfg then [.yield] else []) =
      streamByteEvents s.cfg s.fb s.bcnt := by
    simp only [streamByteEvents, succ_mod_eq_zero_iff, ← hccnt]
    rfl
  refine ⟨_, exec_stream_of_drv hdrv hp hb, ?_⟩
  rw [Streamed, State.endStream_eq, State.endChunk_eq, State.streamByte_eq]
  simp [hcount, ← hevents]

/-- Short of the end of the frame a streamed state is at the same STREAM, and the stream goes on from it. -/
theorem Streamed.trans {b b' : Nat} {s t u : State} (hst : Streamed b s t) (htu : Streamed b' t u)
    (hsb : s.bcnt ≤ b) (hbb' : b ≤ b') (hb : b ≠ frameBytes s.cfg) : Streamed b' s u := by
  have hrange : List.range' s.bcnt (b - s.bcnt) ++ List.range' b (b' - b) = List.range' s.bcnt (b' - s.bcnt) := by
    have hstart : s.bcnt + (b - s.bcnt) = b := by omega
    have hlen : b - s.bcnt + (b' - b) = b' - s.bcnt := by omega
    rw [← hlen, ← List.range'_append_1, hstart]
  unfold Streamed at *
  rw [hst] at htu
  rw [htu]
  simp [hb, ← hrange]

theorem leads_streamByte {s : State} {ws : List UopWord} (hp : s.prog = some .display)
    (hahead : s.ahead .display = 0xB00 :: ws) (hdrv : s.drv = true) (hccnt : s.ccnt = s.bcnt % chunkBytes s.cfg)
    (hb : s.bcnt < frameBytes s.cfg) : LeadsAfter 1 s (Streamed (s.bcnt + 1) s) := by
  refine .one fun q hq => ?_
  obtain ⟨t, hexec, ht⟩ := exec_stream_streamed (s := { s with pins := q }) hp hdrv hccnt hb
  exact .word hp hahead rfl hq hexec (congrArg State.sample ht)

/-- Byte after byte, up to the end of the frame at most. -/
theorem leads_streamed {s : State} {ws : List UopWord} {n : Nat} (hp : s.prog = some .display)
    (hahead : s.ahead .display = 0xB00 :: ws) (hdrv : s.drv = true) (hccnt : s.ccnt = s.bcnt % chunkBytes s.cfg)
    (hn : s.bcnt + n < frameBytes s.cfg) : LeadsAfter (n + 1) s (Streamed (s.bcnt + n + 1) s) := by
  induction n with
  | zero => exact leads_streamByte hp hahead hdrv hccnt hn
  | succ n ih =>
    refine (ih (by omega)).append fun t ht => ?_
    have hmore : s.bcnt + n + 1 ≠ frameBytes s.cfg := by omega
    have hnext : LeadsAfter 1 t (Streamed (t.bcnt + 1) t) := by
      rw [Streamed, if_neg hmore, if_neg hmore] at ht
      rw [ht]
      exact leads_streamByte hp hahead hdrv rfl hn
    have hbcnt : t.bcnt = s.bcnt + n + 1 := by rw [ht]
    rw [hbcnt] at hnext
    exact hnext.mono fun u hu => ht.trans hu (by omega) (by omega) hmore

/-- The whole stream: the end of the frame clears `CCNT` and moves `UPC` on. -/
theorem leads_stream {s : State} {ws : List UopWord} (hp : s.prog = some .display)
    (hahead : s.ahead .display = 0xB00 :: ws) (hdrv : s.drv = true) (hb : s.bcnt = 0) (hccnt : s.ccnt = 0)
    (hpos : 0 < frameBytes s.cfg) :
    LeadsAfter (frameBytes s.cfg) s fun t =>
      t = { s with
        cs := some .high, dc := some .data, ser := t.ser, dcFresh := false, warnCnt := t.warnCnt
        bcnt := frameBytes s.cfg, ccnt := 0, upc := s.upc + 1
        now := t.now, tmr := t.tmr, draws := t.draws, pins := t.pins
        trace := s.trace ++ streamEvents s.cfg s.fb } := by
  obtain ⟨n, hn⟩ := Nat.exists_eq_add_of_lt hpos
  rw [Nat.zero_add] at hn
  have hrun := leads_streamed (n := n) hp hahead hdrv (by rw [hccnt, hb, Nat.zero_mod]) (by omega)
  rw [hb, Nat.zero_add, ← hn] at hrun
  refine hrun.mono fun t ht => ?_
  rwa [Streamed, if_pos rfl, if_pos rfl, hb, Nat.sub_zero, ← List.range_eq_range'] at ht

/-! ### The frames of the stream (44 R186) -/

theorem framesFrom_frameEvents (f : Frame) (d : Option DcMode) : framesFrom d (frameEvents f) = [f] :=
  framesFrom_framesEvents [f] d

theorem framesFrom_streamByteEvents (c : Config) (fb : Memory) (a : Nat) (d : Option DcMode) :
    framesFrom d (streamByteEvents c fb a) = [(.data, (conv c.encoding (fb.read a)).1)] := by
  rw [← framesFrom_withoutYields, streamByteEvents, withoutYields_append, withoutYields_ite_yield, List.append_nil,
    framesFrom_withoutYields, framesFrom_append, framesFrom_of_no_byte (by simp), framesFrom_frameEvents,
    List.nil_append]

/-- Lists of events with the same frames after whatever mode, one after another. -/
theorem framesFrom_flatMap {α : Type} {f : α → List Event} {g : α → List Frame}
    (h : ∀ a d, framesFrom d (f a) = g a) (as : List α) (d : Option DcMode) :
    framesFrom d (as.flatMap f) = as.flatMap g := by
  induction as generalizing d with
  | nil => cases d <;> rfl
  | cons a as ih => rw [List.flatMap_cons, List.flatMap_cons, framesFrom_append, h, ih]

theorem framesFrom_streamEvents (c : Config) (fb : Memory) (d : Option DcMode) :
    framesFrom d (streamEvents c fb) = pixelFrames c fb := by
  rw [streamEvents, framesFrom_flatMap (framesFrom_streamByteEvents c fb), pixelFrames, List.map_eq_flatMap]

theorem State.exists_ahead {s : State} {p : Prog} {w : UopWord} (hw : (s.rom.words p)[s.upc]? = some w) :
    ∃ ws, s.ahead p = w :: ws := by
  obtain ⟨hlt, rfl⟩ := List.getElem?_eq_some_iff.1 hw
  exact ⟨_, List.drop_eq_getElem_cons hlt⟩

/-- Settles O40: the run and its frames, and the count of the yields. -/
theorem streamSendsTheWholeFrame : Obligations.StreamSendsTheWholeFrame := by
  intro s ps hp hw hdrv hb hccnt hpos heven hrows hrst hlen
  obtain ⟨ws, hahead⟩ := State.exists_ahead hw
  obtain ⟨t, hrun, ht⟩ := leads_stream hp hahead hdrv hb hccnt hpos ps hrst hlen
  have hyields := (yieldCount_streamEvents s.fb hpos).trans (nChunks_eq heven hpos hrows).symm
  refine ⟨t, hrun, ?_⟩
  rw [ht]
  refine ⟨rfl, ?_, hyields, rfl, rfl, rfl, rfl, rfl, rfl, rfl, rfl⟩
  rw [frames, framesFrom_append, framesFrom_streamEvents, frames]

end Sys2Proof.Machine

namespace Sys2Proof.Machine

/-! ### A micro-program on its way to END (42 R147, R150) -/

/-- The registers that a PHASE or a completed barrier leaves alone. -/
structure Held where
  cfg : Config
  cs : Option Level
  rst : Option Level
  mode : Mode
  bcnt : Nat
  ccnt : Nat
  len : Nat
  fb : Memory

def State.held (s : State) : Held := ⟨s.cfg, s.cs, s.rst, s.mode, s.bcnt, s.ccnt, s.len, s.fb⟩

@[simp] theorem State.held_cfg (s : State) : s.held.cfg = s.cfg := rfl

/-- The micro-program `p` runs on a driven bus: `ws` are the words still to run, `h` is what the registers hold, `tr`
the trace. -/
structure Running (p : Prog) (ws : List UopWord) (h : Held) (tr : List Event) (s : State) : Prop where
  prog : s.prog = some p
  ahead : s.ahead p = ws
  drv : s.drv = true
  inWait : s.inWait = false
  held : s.held = h
  trace : s.trace = tr

/-- The micro-program `p` has reached its END: what that leaves of a state that held `h` (42 R147). -/
structure Completed (p : Prog) (h : Held) (tr : List Event) (s : State) : Prop where
  held : s.held = { h with mode := modeAfter p h.mode, fb := [] }
  drv : s.drv = true
  phase : s.phase = .idle
  status : s.status = .ok
  prog : s.prog = none
  upc : s.upc = 0
  trace : s.trace = tr ++ [.done p.op .ok]

section
variable {p : Prog} {w : UopWord} {ws : List UopWord} {h : Held} {tr : List Event} {s : State}

theorem Running.phase {ph : Phase} (hs : Running p (w :: ws) h tr s) (hw : decodeUop w = .ok (.phase (phaseCode ph))) :
    LeadsAfter 1 s (Running p ws h tr) :=
  .one fun _ hq => .word hs.prog hs.ahead hw hq (exec_phase_of_code ph _)
    ⟨hs.prog, State.ahead_advance hs.ahead, hs.drv, hs.inWait, hs.held, hs.trace⟩

theorem Running.frames {fs : List Frame} (hs : Running p (fs.map uopOfFrame ++ ws) h tr s) (hfs : fs ≠ []) :
    LeadsAfter fs.length s (Running p ws { h with cs := some .high } (tr ++ framesEvents fs)) := by
  intro ps hrst hlen
  obtain ⟨hprog, hahead, hdrv, hwait, rfl, rfl⟩ := hs
  obtain ⟨t, hrun, ht⟩ := Leads.frames hprog hahead hdrv hrst hlen
  have hrest : (s.rom.words p).drop (s.upc + fs.length) = ws := by
    rw [← List.drop_drop]
    exact (congrArg (List.drop fs.length) hahead).trans (List.drop_left' (List.length_map _))
  obtain ⟨hcs, -⟩ := State.sendFrames_lines hfs s
  rw [State.sendFrames_frame, hcs, State.sendFrames_trace] at ht
  rw [ht] at hrun
  exact ⟨_, hrun, hprog, hrest, hdrv, hwait, rfl, rfl⟩

/-- A PHASE, then the words of a message to the panel. -/
theorem Running.message {ph : Phase} {b : Byte} {ds : List Byte}
    (hs : Running p (w :: ((messageFrames b ds).map uopOfFrame ++ ws)) h tr s)
    (hw : decodeUop w = .ok (.phase (phaseCode ph))) :
    LeadsAfter (1 + (messageFrames b ds).length) s
      (Running p ws { h with cs := some .high } (tr ++ framesEvents (messageFrames b ds))) :=
  (hs.phase hw).append fun _ hs => hs.frames nofun

theorem Running.stream (hs : Running .display (0xB00 :: ws) h tr s) (hb : h.bcnt = 0) (hccnt : h.ccnt = 0)
    (hpos : 0 < frameBytes h.cfg) :
    LeadsAfter (frameBytes h.cfg) s
      (Running .display ws { h with cs := some .high, bcnt := frameBytes h.cfg } (tr ++ streamEvents h.cfg h.fb)) := by
  intro ps hrst hlen
  obtain ⟨hprog, hahead, hdrv, hwait, rfl, rfl⟩ := hs
  obtain ⟨t, hrun, ht⟩ := leads_stream hprog hahead hdrv hb hccnt hpos ps hrst hlen
  rw [ht] at hrun
  exact ⟨_, hrun, hprog, State.ahead_advance hahead, hdrv, hwait, by rw [hccnt]; rfl, rfl⟩

theorem Running.barrier {busy : List Pins} {q : Pins} (hs : Running p (0x800 :: ws) h tr s) (hrst : noReset busy)
    (hbusy : allBusy busy) (hbound : belowBound h.cfg busy.length) (hq : q.rst = false) (hrdy : q.rdy = true) :
    Leads (busy ++ [q]) s (Running p ws h (tr ++ barrierEvents busy.length)) := by
  obtain ⟨hprog, hahead, hdrv, hwait, rfl, rfl⟩ := hs
  obtain ⟨t, hrun, -, ht⟩ := completedBarrierTrace s p busy q hprog (State.getElem?_of_ahead hahead) hwait hrst hbusy
    hbound hq hrdy
  rw [ht] at hrun
  exact ⟨_, hrun, hprog, State.ahead_advance hahead, hdrv, hwait, rfl, rfl⟩

theorem Running.rstw {l : Level} (hs : Running p (w :: ws) h tr s) (hw : decodeUop w = .ok (.rstw l)) :
    LeadsAfter 1 s (Running p ws { h with rst := some l } (tr ++ [.rstW l])) := by
  obtain ⟨hprog, hahead, hdrv, hwait, rfl, rfl⟩ := hs
  exact .one fun q hq => .word hprog hahead hw hq (exec_rstw_of_drv (s := { s with pins := q }) hdrv l)
    ⟨hprog, State.ahead_advance hahead, hdrv, hwait, rfl, rfl⟩

theorem Running.endOp (hs : Running p (0x000 :: ws) h tr s) : LeadsAfter 1 s (Completed p h tr) := by
  obtain ⟨hprog, hahead, hdrv, -, rfl, rfl⟩ := hs
  exact .one fun q hq => .word hprog hahead rfl hq (exec_endOp_of_prog (s := { s with pins := q }) hprog)
    ⟨rfl, hdrv, rfl, rfl, rfl, rfl, rfl⟩

end

/-! ### SLEEP from the request to its END (44 R191, R192) -/

/-- `ROM(Sleep)` with its message as the words of the frames. -/
theorem romSleep_eq (c : Config) :
    romSleep c = 0xC08 :: ((messageFrames c.cmdDeepSleep c.sleepPayload).map uopOfFrame ++ [0x600, 0x000]) := by
  rw [← romEntry_eq (c.cmdDeepSleep, c.sleepPayload)]
  rfl

theorem romSleep_map_decodeUop (c : Config) :
    (romSleep c).map decodeUop =
      (([.phase (phaseCode .sleeping), .cmd c.cmdDeepSleep] ++ c.sleepPayload.map .dat ++
        [.rstw .low, .endOp] : List Instr)).map .ok := by
  simp only [romSleep, List.map_append, List.map_cons, List.map_map, Function.comp_def, decodeUop_romCmd,
    decodeUop_romDat, List.append_assoc]
  rfl

theorem messageFrames_length (b : Byte) (ds : List Byte) : (messageFrames b ds).length = ds.length + 1 := by
  simp [messageFrames]

theorem romSleep_length (c : Config) : (romSleep c).length = 4 + c.sleepPayload.length := by
  simp only [romSleep_eq, List.length_cons, List.length_append, List.length_map, messageFrames_length, List.length_nil]
  omega

/-- The request in Ready: all of `ROM(Sleep)` is still to run. -/
theorem leads_sleeping {s : State} {r : Pins} (hp : s.prog = none) (hidle : s.phase = .idle) (hm : s.mode = .ready)
    (hdrv : s.drv = true) (hrom : s.rom = Rom.ofConfig s.cfg) (hrst : r.rst = false) (hv : r.reqValid = true)
    (hop : r.reqOp = 0b11) : Leads [r] s (Running .sleep (romSleep s.cfg) s.held s.trace) := by
  obtain ⟨hexec, -⟩ := sleepAdmission { s with pins := r } hidle
  have hdecode : decodeHostop r.reqOp = .sleep := by rw [hop]; rfl
  rw [← hdecode] at hexec
  exact .request hp hrst hv (hexec hm) ⟨rfl, congrArg Rom.sleep hrom, hdrv, rfl, rfl, rfl⟩

/-- All of `ROM(Sleep)`. -/
theorem Running.sleepProgram {c : Config} {h : Held} {tr : List Event} {s : State}
    (hs : Running .sleep (romSleep c) h tr s) :
    LeadsAfter (4 + c.sleepPayload.length) s
      (Completed .sleep { h with cs := some .high, rst := some .low }
        (tr ++ framesEvents (messageFrames c.cmdDeepSleep c.sleepPayload) ++ [.rstW .low])) := by
  rw [romSleep_eq] at hs
  have hrun := (hs.message (ph := .sleeping) rfl).append fun _ hs => (hs.rstw rfl).append fun _ hs => hs.endOp
  have hlen : 1 + (messageFrames c.cmdDeepSleep c.sleepPayload).length + (1 + 1) = 4 + c.sleepPayload.length := by
    rw [messageFrames_length]
    omega
  rwa [hlen] at hrun

/-- Settles O51: the words by evaluation but for the payload; then the request and the words of the program. -/
theorem sleepDropsTheResetLine : Obligations.SleepDropsTheResetLine := by
  refine ⟨fun c => ⟨romSleep_map_decodeUop c, romSleep_length c⟩, ?_⟩
  intro s r ps hp hidle hm hdrv hrom hr hv hop hrst hlen
  obtain ⟨t, hrun, ht⟩ := (leads_sleeping hp hidle hm hdrv hrom hr hv hop).cons fun _ hs =>
    hs.sleepProgram ps hrst hlen
  refine ⟨t, hrun, ?_, congrArg Held.mode ht.held, congrArg Held.rst ht.held, congrArg Held.cs ht.held, ht.drv,
    ht.phase, ht.status, ht.prog, ht.upc⟩
  rw [ht.trace, List.append_assoc]
  rfl

/-! ### DISPLAYFRAME from the request to its END (44 R180, R190) -/

/-- `ROM(Display)` with its messages as the words of the frames. -/
theorem romDisplay_eq (c : Config) :
    romDisplay c =
      0xC01 :: ((messageFrames c.cmdFrameStart []).map uopOfFrame ++ 0xB00 ::
      0xC02 :: ((messageFrames c.cmdPowerOn []).map uopOfFrame ++ 0x800 ::
      0xC03 :: ((messageFrames c.cmdRefresh [c.argRefresh]).map uopOfFrame ++ 0x800 ::
      0xC04 :: ((messageFrames c.cmdPowerOff [c.argPowerOff]).map uopOfFrame ++ [0x800, 0x000])))) := rfl

/-- The request in Ready with the right length: all of `ROM(Display)` is still to run, with the buffer of the request
and the counters at 0. -/
theorem leads_displaying {s : State} {r : Pins} (hp : s.prog = none) (hidle : s.phase = .idle) (hm : s.mode = .ready)
    (hdrv : s.drv = true) (hrom : s.rom = Rom.ofConfig s.cfg) (hrst : r.rst = false) (hv : r.reqValid = true)
    (hop : r.reqOp = 0b10) (hlen : r.reqLen.toNat = frameBytes s.cfg) :
    Leads [r] s (Running .display (romDisplay s.cfg)
      { s.held with bcnt := 0, ccnt := 0, len := frameBytes s.cfg, fb := r.fb } s.trace) := by
  have hexec := displayframeAdmitted { s with pins := r } hidle hm hlen
  have hdecode : decodeHostop r.reqOp = .displayframe := by rw [hop]; rfl
  rw [← hdecode] at hexec
  exact .request hp hrst hv hexec ⟨rfl, congrArg Rom.display hrom, hdrv, rfl, rfl, rfl⟩

/-- The words before the first barrier. -/
theorem Running.transmit {cs cp : Byte} {ws : List UopWord} {h : Held} {tr : List Event} {s : State}
    (hs : Running .display (0xC01 :: ((messageFrames cs []).map uopOfFrame ++ 0xB00 ::
      0xC02 :: ((messageFrames cp []).map uopOfFrame ++ ws))) h tr s)
    (hb : h.bcnt = 0) (hccnt : h.ccnt = 0) (hpos : 0 < frameBytes h.cfg) :
    LeadsAfter (2 + frameBytes h.cfg + 2) s
      (Running .display ws { h with cs := some .high, bcnt := frameBytes h.cfg }
        (tr ++ framesEvents (messageFrames cs []) ++ streamEvents h.cfg h.fb ++ framesEvents (messageFrames cp []))) :=
  ((hs.message (ph := .transmitting) rfl).append fun _ hs => hs.stream hb hccnt hpos).append fun _ hs =>
    hs.message (ph := .poweringOn) rfl

theorem framesFrom_barrierEvents (n : Nat) (d : Option DcMode) : framesFrom d (barrierEvents n) = [] :=
  framesFrom_of_no_byte (byte_not_mem_barrierEvents n) d

theorem framesFrom_displayEvents (c : Config) (fb : Memory) (n1 n2 n3 : Nat) (d : Option DcMode) :
    framesFrom d (displayEvents c fb n1 n2 n3) = displayFrames c fb := by
  have hdone (d : Option DcMode) : framesFrom d [.done .displayframe .ok] = [] := framesFrom_of_no_byte (by simp) d
  simp [displayEvents, displayFrames, framesFrom_append, framesFrom_frameEvents, framesFrom_streamEvents,
    framesFrom_barrierEvents, hdone]

theorem displayFrames_length (c : Config) (fb : Memory) : (displayFrames c fb).length = frameBytes c + 6 := by
  simp [displayFrames, pixelFrames]

/-- Settles O50: the request, the words up to the first barrier, and from each barrier to the next. -/
theorem displayframeSendsExactlyTheseFrames : Obligations.DisplayframeSendsExactlyTheseFrames := by
  intro s r q1 q2 q3 a w1 b1 w2 b2 w3 e hp hidle hm hdrv hrom hpos hr hv hop hlen ha halen hw1 hw1b hw1n hq1 hq1r
    hb1 hb1len hw2 hw2b hw2n hq2 hq2r hb2 hb2len hw3 hw3b hw3n hq3 hq3r he
  have hrequest := leads_displaying hp hidle hm hdrv hrom hr hv hop hlen
  rw [romDisplay_eq] at hrequest
  obtain ⟨t, hrun, ht⟩ := hrequest.cons fun _ hs =>
    (hs.transmit rfl rfl hpos a ha halen).append fun _ hs =>
    (hs.barrier hw1 hw1b hw1n hq1 hq1r).append fun _ hs =>
    (hs.message (ph := .refreshing) rfl b1 hb1 hb1len).append fun _ hs =>
    (hs.barrier hw2 hw2b hw2n hq2 hq2r).append fun _ hs =>
    (hs.message (ph := .poweringOff) rfl b2 hb2 hb2len).append fun _ hs =>
    (hs.barrier hw3 hw3b hw3n hq3 hq3r).append fun _ hs => hs.endOp [e] (by simpa [noReset] using he) rfl
  have htrace : t.trace = s.trace ++ displayEvents s.cfg r.fb w1.length w2.length w3.length := by
    rw [ht.trace]
    simp [displayEvents, messageFrames, Prog.op]
  refine ⟨t, by simpa using hrun, htrace, ?_, displayFrames_length _ _, (congrArg Held.mode ht.held).trans hm,
    ht.phase, ht.status, ht.prog, ht.upc, congrArg Held.bcnt ht.held, congrArg Held.len ht.held,
    congrArg Held.rst ht.held⟩
  rw [htrace, frames, framesFrom_append, framesFrom_displayEvents, frames]

end Sys2Proof.Machine

namespace Sys2Proof.Machine

/-! ### Rejected requests and the mode (60 R223, R224, R226, R236) -/

/-- Settles O42. -/
theorem reservedRequestIsBadOp : Obligations.ReservedRequestIsBadOp :=
  fun _ hidle => ifTaken_of_idle _ hidle

/-- Settles O46: taken in `Idle`, then the mode decides, and in `Ready` the length. -/
theorem displayframeRejections : Obligations.DisplayframeRejections := by
  intro s hidle
  simp only [exec, execDisplayframe, ifTaken_of_idle _ hidle]
  refine ⟨fun hm => ifReady_of_not_configured _ hm, fun hm hlen => ?_⟩
  rw [ifReady_of_ready _ hm, if_neg hlen]
  rfl

/-- Whether the bus could be configured or not, INITIALIZE leaves `Unconfigured` (42 R140). -/
theorem State.beginInit_mode (s : State) : s.beginInit.mode = .unconfigured := by
  obtain h | h := s.beginInit_cases
  · rw [h]; rfl
  · rw [h]; rfl

/-- Settles O57: three instructions write `MODE` (O58), and each of them writes it in its listed ends only. -/
theorem modeChangesOnlyAsListed : Obligations.ModeChangesOnlyAsListed := by
  intro i s t h
  by_cases hi : i ∈ [.initializeOp, .endOp, .waitrdy]
  · simp only [List.mem_cons, List.not_mem_nil, or_false] at hi
    obtain rfl | rfl | rfl := hi
    · obtain rfl | rfl := exec_initializeOp_next h
      · exact .inl rfl
      · exact .inr (.inl ⟨rfl, s.beginInit_mode⟩)
    · obtain ⟨p, hp, rfl⟩ := exec_endOp_next h
      cases p with
      | init => exact .inr (.inr (.inl ⟨rfl, hp, rfl⟩))
      | display => exact .inl rfl
      | sleep => exact .inr (.inr (.inr (.inl ⟨rfl, hp, rfl⟩)))
    · obtain ⟨-, rfl⟩ | ⟨-, -, p, -, rfl⟩ | ⟨-, -, rfl⟩ := execWaitrdy_next h
      · rw [s.enterWait_frame]; exact .inl rfl
      · exact .inr (.inr (.inr (.inr ⟨rfl, rfl, rfl⟩)))
      · rw [s.enterWait_frame]; exact .inl rfl
  · obtain ⟨-, -, -, -, -, -, hmode, -⟩ := registersAreWrittenOnlyByTheirRules i s t h
    exact .inl (hmode hi)

/-! ### Frames go only to a configured panel (60 R235, R236, 70 R268)

The registers say whether a session is open, and `SessionKept` that the trace says the same. An operation keeps it when
its events lead from what the registers said before to what they say after. In a running program the session is open,
and only a `Done` can close it, so every word keeps it that ends no operation. -/

/-- Whether the registers say that a session is open: in `Ready`, or while an INITIALIZE runs. -/
def State.sessionOpen (s : State) : Bool := decide (s.mode = .ready) || decide (s.prog = some .init)

theorem SessionKept.append {s t : State} (hs : SessionKept s) (es : List Event) (htrace : t.trace = s.trace ++ es)
    (hread : sessionEvents s.sessionOpen es = some t.sessionOpen) : SessionKept t := by
  have hs : sessionEvents false s.trace = some s.sessionOpen := hs
  rw [SessionKept, htrace, sessionEvents_append, hs]
  exact hread

theorem SessionKept.sample {s : State} (hs : SessionKept s) : SessionKept s.sample := hs

theorem sessionKept_blockReset (s : State) : SessionKept s.blockReset := rfl

/-! Requests: INITIALIZE opens a session or closes one, the others leave it to their micro-programs. -/

/-- A rejected request ends with a result that neither opens nor closes a session. -/
theorem SessionKept.reject {s : State} (hs : SessionKept s) (op : HostOp) {st : Status}
    (hst : st ∈ [.notConfigured, .badLength, .badOp]) : SessionKept (s.reject op st) := by
  refine hs.append [.done op st] rfl ?_
  simp only [List.mem_cons, List.not_mem_nil, or_false] at hst
  obtain rfl | rfl | rfl := hst
  all_goals
    cases op
    all_goals rfl

theorem SessionKept.beginInit {s : State} (hs : SessionKept s) : SessionKept s.beginInit := by
  obtain h | h := s.beginInit_cases
  · rw [h]; exact hs.append [.cfg, .csW .high] (State.configureBus_trace _) rfl
  · rw [h]; exact hs.append [.done .initializeOp .setupFailure] rfl rfl

/-- With nothing running, a program other than `ROM(Init)` begins in the session that `MODE` says. -/
theorem SessionKept.beginProgram {s : State} (hs : SessionKept s) (hp : s.prog = none) {p : Prog}
    (hinit : p ≠ .init) : SessionKept (s.beginProgram p) := by
  refine hs.append [] (List.append_nil _).symm ?_
  show some s.sessionOpen = some (decide (s.mode = .ready) || decide (some p = some .init))
  simp [State.sessionOpen, hp, hinit]

theorem SessionKept.beginDisplay {s : State} (hs : SessionKept s) (hp : s.prog = none) :
    SessionKept s.beginDisplay :=
  SessionKept.beginProgram hs hp nofun

theorem SessionKept.execDisplayframe {s t : State} (hs : SessionKept s) (hp : s.prog = none)
    (h : exec .displayframe s = .next t) : SessionKept t := by
  obtain ⟨-, h⟩ | ⟨-, rfl⟩ := ifTaken_next h
  · obtain ⟨-, h⟩ | ⟨-, rfl⟩ := ifReady_next h
    · obtain rfl := Host.Outcome.next.inj h
      split
      · exact hs.beginDisplay hp
      · exact hs.reject _ (by simp)
    · exact hs.reject _ (by simp)
  · exact hs

theorem SessionKept.request {s t : State} (hs : SessionKept s) (hp : s.prog = none) (w : HostWord)
    (h : exec (decodeHostop w) s = .next t) : SessionKept t := by
  obtain hw | hw | hw | hw := decodeHostop_cases w
  all_goals rw [hw] at h
  · obtain rfl | rfl := exec_hostopReserved_next h
    · exact hs
    · exact hs.reject _ (by simp)
  · obtain rfl | rfl := exec_initializeOp_next h
    · exact hs
    · exact hs.beginInit
  · exact hs.execDisplayframe hp h
  · obtain rfl | rfl | rfl := exec_sleep_next h
    · exact hs
    · exact hs.reject _ (by simp)
    · exact hs.beginProgram hp nofun

/-! Micro-operations: the session of a running program. -/

/-- A program runs in a session: INITIALIZE in its own, the two others in `Ready`. -/
theorem Consistent.sessionOpen {s : State} (hs : Consistent s) {p : Prog} (hp : s.prog = some p) :
    s.sessionOpen = true := by
  obtain ⟨-, hm, -⟩ := hs.running p hp
  cases p with
  | init => simp [State.sessionOpen, hp]
  | display | sleep => simp [State.sessionOpen, hm, modeOfProg]

theorem sessionEvents_of_no_done {es : List Event} (hes : ∀ op st, .done op st ∉ es) :
    sessionEvents true es = some true := by
  induction es with
  | nil => rfl
  | cons e es ih =>
    simp only [List.mem_cons, not_or] at hes
    have ih := ih fun op st => (hes op st).2
    cases e with
    | done op st => exact absurd rfl (hes op st).1
    | cfg | rstW | wait | dcW | csW | byte | poll | yield | warn => exact ih

/-- A word that leaves `MODE` and `PROG` and ends no operation keeps an open session open. -/
theorem SessionKept.goesOn {s t : State} (hs : SessionKept s) (hopen : s.sessionOpen = true) (es : List Event)
    (hm : t.mode = s.mode) (hp : t.prog = s.prog) (htrace : t.trace = s.trace ++ es)
    (hes : ∀ op st, .done op st ∉ es) : SessionKept t := by
  refine hs.append es htrace ?_
  have hopen' : t.sessionOpen = true := by rw [State.sessionOpen, hm, hp]; exact hopen
  rw [hopen, hopen', sessionEvents_of_no_done hes]

theorem SessionKept.advance {s : State} (hs : SessionKept s) : SessionKept s.advance := hs

theorem SessionKept.sendFrame {s : State} (hs : SessionKept s) (hopen : s.sessionOpen = true) (f : Frame) :
    SessionKept (s.sendFrame f) := by
  rw [s.sendFrame_eq]
  exact hs.goesOn hopen (frameEvents f) rfl rfl rfl (by simp [frameEvents])

/-- At the bound the operation ends and the session with it (41 R128, 60 R225). -/
theorem SessionKept.execWaitrdy {s t : State} (hs : SessionKept s) (hopen : s.sessionOpen = true)
    (h : exec .waitrdy s = .next t) : SessionKept t := by
  have hcases := execWaitrdy_next h
  rw [s.enterWait_frame] at hcases
  obtain ⟨-, rfl⟩ | ⟨-, -, p, -, rfl⟩ | ⟨-, -, rfl⟩ := hcases
  · exact hs.goesOn hopen [.poll s.pins.rdy] rfl rfl rfl (by simp)
  · refine hs.append [.poll s.pins.rdy, .done p.op .hwNotResponding] (List.append_assoc _ [_] [_]) ?_
    cases p
    all_goals rfl
  · exact hs.goesOn hopen [.poll s.pins.rdy, .yield] rfl rfl (List.append_assoc _ [_] [_]) (by simp)

theorem SessionKept.streamByte {s : State} (hs : SessionKept s) (hopen : s.sessionOpen = true) :
    SessionKept s.streamByte := by
  rw [s.streamByte_eq]
  exact hs.goesOn hopen ((streamConv s).2.map .warn ++ frameEvents (.data, (streamConv s).1)) rfl rfl
    (List.append_assoc _ _ _) (by simp [frameEvents])

theorem State.streamByte_sessionOpen (s : State) : s.streamByte.sessionOpen = s.sessionOpen := by
  rw [s.streamByte_eq]
  rfl

theorem SessionKept.endChunk {s : State} (hs : SessionKept s) (hopen : s.sessionOpen = true) :
    SessionKept s.endChunk := by
  obtain h | ⟨-, h⟩ := s.endChunk_cases
  · rw [h]; exact hs.goesOn hopen [.yield] rfl rfl rfl (by simp)
  · rw [h]; exact hs

theorem SessionKept.endStream {s : State} (hs : SessionKept s) : SessionKept s.endStream := by
  obtain h | h := s.endStream_cases
  · rw [h]; exact hs.advance
  · rw [h]; exact hs

theorem SessionKept.execStream {s t : State} (hs : SessionKept s) (hopen : s.sessionOpen = true)
    (h : exec .stream s = .next t) : SessionKept t := by
  obtain ⟨-, ⟨-, rfl⟩ | ⟨-, -, rfl⟩⟩ := execStream_next h
  · exact hs.advance
  · exact ((hs.streamByte hopen).endChunk (s.streamByte_sessionOpen.trans hopen)).endStream

/-- END completes INITIALIZE and DISPLAYFRAME in `Ready`, and closes the session of a SLEEP (42 R147). -/
theorem SessionKept.execEndOp {s t : State} (hs : SessionKept s) (hc : Consistent s)
    (h : exec .endOp s = .next t) : SessionKept t := by
  obtain ⟨p, hp, rfl⟩ := exec_endOp_next h
  obtain ⟨-, hm, -⟩ := hc.running p hp
  refine hs.append [.done p.op .ok] rfl ?_
  rw [hc.sessionOpen hp]
  cases p with
  | init | sleep => rfl
  | display =>
    show some true = _
    simp [State.sessionOpen, modeAfter, hm, modeOfProg]

theorem SessionKept.body {s t : State} (hs : SessionKept s) (hopen : s.sessionOpen = true) {p : Prog} {i : Instr}
    (hi : InBody p i) (h : exec i s = .next t) : SessionKept t := by
  cases hi with
  | phase q => obtain ⟨q', -, rfl⟩ := exec_phase_next h; exact hs
  | cmd b => obtain ⟨-, rfl⟩ := ifDriven_next h; exact (hs.sendFrame hopen _).advance
  | dat d => obtain ⟨-, rfl⟩ := ifDriven_next h; exact (hs.sendFrame hopen _).advance
  | rstw l => obtain ⟨-, rfl⟩ := ifDriven_next h; exact hs.goesOn hopen [.rstW l] rfl rfl rfl (by simp)
  | waitrdy => exact hs.execWaitrdy hopen h
  | hardreset =>
    obtain rfl := exec_hardreset_next h
    rw [s.resetPulse_eq]
    exact hs.goesOn hopen (pulseEvents s.cfg) rfl rfl rfl (by simp [pulseEvents])
  | stream => exact hs.execStream hopen h

/-- The word that a consistent state runs is its program's END, or an instruction of the body. -/
theorem Consistent.fetched {s : State} (hs : Consistent s) {p : Prog} {w : UopWord} {i : Instr}
    (hp : s.prog = some p) (hw : (s.rom.words p)[s.upc]? = some w) (hi : decodeUop w = .ok i) :
    i = .endOp ∨ InBody p i := by
  obtain ⟨hupc, -, -⟩ := hs.running p hp
  rw [hs.romFixed] at hupc hw
  obtain ⟨w', i', hw', hi', hcase⟩ := word_cases hupc
  obtain rfl : w = w' := Option.some.inj (hw.symm.trans hw')
  obtain rfl : i = i' := Except.ok.inj (hi.symm.trans hi')
  exact hcase.imp_right And.left

theorem SessionKept.step {s t : State} (hc : Consistent s) (hs : SessionKept s) (h : step s = .next t) :
    SessionKept t := by
  obtain ⟨u, rfl, hcases⟩ := step_cases h
  obtain ⟨-, rfl⟩ | ⟨-, p, w, i, hp, hw, hi, hu⟩ | ⟨-, hp, -, hu⟩ | ⟨-, -, -, rfl⟩ := hcases
  · exact (sessionKept_blockReset s).sample
  · obtain rfl | hbody := hc.fetched hp hw hi
    · exact (hs.execEndOp hc hu).sample
    · exact (hs.body (hc.sessionOpen hp) hbody hu).sample
  · exact (hs.request hp _ hu).sample
  · exact hs.sample

/-- Settles O55: a step is a reset, a request of an idle block, or a word of the running program; each leads the
session of the trace to where `MODE` and `PROG` are left. -/
theorem everyStepKeepsTheSession : Obligations.EveryStepKeepsTheSession :=
  fun _ _ hc hs h => hs.step hc h

end Sys2Proof.Machine
